-- ==== Sys2Proof/Word.lean ====
section
/-! DEFINITION. The value types of the engine: bytes, 16-bit checksums, 32-bit clock values (00_scope.md R12).
Every multi-byte value that has a byte order is little-endian (20_memory.md R61). -/
namespace Sys2Proof

/-- `u8` of 00_scope.md R12. -/
abbrev Byte := BitVec 8

/-- `u16` of 00_scope.md R12: the checksum. -/
abbrev Word16 := BitVec 16

/-- `u32` of 00_scope.md R12: the clock and the Timeout fields. -/
abbrev Word32 := BitVec 32

/-- A byte string. -/
abbrev Bytes := List Byte

/-- The low byte of a 16-bit value, `v[7:0]`. -/
def lowByte (v : Word16) : Byte := v.setWidth 8

/-- The high byte of a 16-bit value, `v[15:8]`. -/
def highByte (v : Word16) : Byte := (v >>> 8).setWidth 8

/-- `zext_16(lsb) | (zext_16(msb) << 8)` (20_memory.md R61). -/
def word16 (lsb msb : Byte) : Word16 := lsb.setWidth 16 ||| (msb.setWidth 16 <<< 8)

end Sys2Proof
end

