-- ==== Sys2Proof/Config.lean ====
section
/-! DEFINITION. What a build of the engine fixes: the build parameters of 00_scope.md R8 and 30_encoding.md R96, the sizes
of R9, the durations of R10, the wire constants of R11, and the free values: the draw of 70_reset_and_hazards.md R342, and the
frame that 45_sequencer.md R230 does not state. -/
namespace Sys2Proof

/-- ROLE (00_scope.md R8). -/
inductive Role where
  | leader
  | follower
deriving DecidableEq, Repr

/-- DATA_SERVICE (00_scope.md R8, D23). -/
inductive DataService where
  | dl
  | phy
deriving DecidableEq, Repr

/-- TICKS_PER_MS, 1 or 1000 (00_scope.md R8, D4). -/
inductive TickRate where
  | one
  | thousand
deriving DecidableEq, Repr

/-- CSUM_FAIL_POLICY (00_scope.md R8, D5); decided SilentDrop, ReplyNak is the labelled variant (I35). -/
inductive CsumFailPolicy where
  | silentDrop
  | replyNak
deriving DecidableEq, Repr

/-- GATE_CLOSED_POLICY (00_scope.md R8, D6); decided Drop, ToConfirmQueue is the named alternative (I36). -/
inductive GateClosedPolicy where
  | drop
  | toConfirmQueue
deriving DecidableEq, Repr

/-- RX_TMO_REARM (00_scope.md R8, D9); decided PerByte, FrameStartOnly is the named alternative (I37). -/
inductive RxRearm where
  | perByte
  | frameStartOnly
deriving DecidableEq, Repr

/-- The build configuration (00_scope.md R8, 30_encoding.md R96). It is fixed for one build: State carries it, nothing
writes it. -/
structure Build where
  role          : Role
  twoWay        : Bool
  dataService   : DataService
  optDl         : Bytes
  optPhy        : Bytes
  indOffset     : Fin 255
  tickRate      : TickRate
  csumFail      : CsumFailPolicy
  gateClosed    : GateClosedPolicy
  rxRearm       : RxRearm
  baseReset     : Byte
  baseMibWrite  : Byte
  baseMibErase  : Byte
  basePing      : Byte
  basePhy       : Byte
  baseDl        : Byte
deriving DecidableEq, Repr

/-- The build that State.reset carries: the conventions of 95_test_vectors.md section 0 with ROLE = Leader, and the default
command codes of 30_encoding.md R97. DESIGN CHOICE (log entries 5 and 6): the spec leaves these parameters OPEN; no
statement rests on them. -/
def Build.default : Build where
  role         := .leader
  twoWay       := false
  dataService  := .dl
  optDl        := []
  optPhy       := []
  indOffset    := 0
  tickRate     := .one
  csumFail     := .silentDrop
  gateClosed   := .drop
  rxRearm      := .perByte
  baseReset    := 0x3C
  baseMibWrite := 0x08
  baseMibErase := 0x10
  basePing     := 0x2C
  basePhy      := 0x24
  baseDl       := 0x50

namespace Config

/-- MAX_PAYLOAD (00_scope.md R9). -/
def maxPayload : Nat := 255
/-- MAX_DL (00_scope.md R9): bytes of caller payload. -/
def maxDl : Nat := 242
/-- MAX_PHY (00_scope.md R9): bytes of caller payload. -/
def maxPhy : Nat := 250
/-- MAX_PING_TOTAL (00_scope.md R9, D21). -/
def maxPingTotal : Nat := 254
/-- MAX_MIBW_TOTAL (00_scope.md R9, D21), index included. -/
def maxMibWriteTotal : Nat := 254

/-- CAP_IND (00_scope.md R9). -/
def capInd : Nat := 8
/-- CAP_TX (00_scope.md R9). -/
def capTx : Nat := 2
/-- CAP_CNF (00_scope.md R9). -/
def capCnf : Nat := 2
/-- CAP_STATUS (00_scope.md R9, D12). -/
def capStatus : Nat := 2
/-- CAP_ACK (00_scope.md R9, D12). -/
def capAck : Nat := 2
/-- CAP_USB_OUT (00_scope.md R9). -/
def capUsbOut : Nat := 32
/-- CAP_USB_IN (00_scope.md R9). -/
def capUsbIn : Nat := 32

/-- T_INTERCHAR in ms (00_scope.md R10). -/
def tInterchar : Nat := 10
/-- T_STATUS in ms (00_scope.md R10). -/
def tStatus : Nat := 200
/-- T_ACK in ms (00_scope.md R10). -/
def tAck : Nat := 40
/-- T_CNF in ms (00_scope.md R10). -/
def tCnf : Nat := 4000
/-- T_FAIL in ms (00_scope.md R10). -/
def tFail : Nat := 100
/-- T_PING in ms (00_scope.md R10). -/
def tPing : Nat := 500
/-- T_RESET_LOW in ms (00_scope.md R10, D31). -/
def tResetLow : Nat := 1500
/-- T_INIT_POLL in ms (00_scope.md R10). -/
def tInitPoll : Nat := 100

/-- STX_REQUEST (00_scope.md R11). -/
def stxRequest : Byte := 0x02
/-- STX_INDICATION (00_scope.md R11). -/
def stxIndication : Byte := 0x03
/-- STX_STATUS (00_scope.md R11). -/
def stxStatus : Byte := 0x3F
/-- ACK (00_scope.md R11). -/
def ackByte : Byte := 0x06
/-- NAK (00_scope.md R11). -/
def nakByte : Byte := 0x15
/-- BUSY_MASK (00_scope.md R11). -/
def busyMask : Byte := 0x06
/-- HDR_IDLE (00_scope.md R11). -/
def hdrIdle : Byte := 0x00
/-- HDR_DATA (00_scope.md R11). -/
def hdrData : Byte := 0x01
/-- HDR_PING (00_scope.md R11). -/
def hdrPing : Byte := 0x02

/-- The clock's value after the n-th RESET event: "unspecified ... a draw: any u32" (70_reset_and_hazards.md R342). A free
value: it has no body, so every claim holds for whatever it is (log entry 7). -/
opaque clockAtReset : Nat → Word32

/-- The command and the payload of the request that SEQ_ENQUEUE stores when its operand is no well-formed request frame, a case
45_sequencer.md R230 does not state. A free value: it has no body, so every claim holds for whatever it is (log entry 23). -/
opaque unstatedRequest : Nat → Byte × Bytes

end Config

/-- TICKS_PER_MS as a number (00_scope.md R8). -/
def TickRate.perMs : TickRate → Nat
  | .one => 1
  | .thousand => 1000

end Sys2Proof
end

