-- ==== Sys2Proof/Syntax.lean ====
section
/-! DEFINITION. What the engine decodes and runs: frames, tags, headers, command codes, and `Instr`, one constructor for
each of the 64 rows of spec/opcode_table.json. -/
namespace Sys2Proof

/-- `Frame` (10_state.md R22). -/
structure Frame where
  start    : Byte
  length   : Byte
  command  : Byte
  payload  : Bytes
  checksum : Word16
deriving DecidableEq, Repr

/-- `SenderTag` (10_state.md R23). -/
inductive SenderTag where
  | inactive
  | reset
  | mibWrite
  | mibErase
  | dlData
  | phyData
  | ping (payload : Bytes)
deriving DecidableEq, Repr

/-- The two start bytes of a frame (30_encoding.md R92). -/
inductive Stx where
  | request
  | indication
deriving DecidableEq, Repr

/-- The byte of a start byte (30_encoding.md R92). -/
def Stx.byte : Stx → Byte
  | .request => Config.stxRequest
  | .indication => Config.stxIndication

/-- The two out-of-band reply bytes (30_encoding.md R93); the legal values of pending_reply (10_state.md R32) and the elements
of q_ack (R36). -/
inductive Reply where
  | ack
  | nak
deriving DecidableEq, Repr

/-- The wire byte of a reply (30_encoding.md R93). -/
def Reply.byte : Reply → Byte
  | .ack => Config.ackByte
  | .nak => Config.nakByte

/-- `Header` (10_state.md R24). -/
inductive Header where
  | idle
  | data
  | ping
deriving DecidableEq, Repr

/-- The header's byte (30_encoding.md R99). -/
def Header.byte : Header → Byte
  | .idle => Config.hdrIdle
  | .data => Config.hdrData
  | .ping => Config.hdrPing

/-- The six command families (30_encoding.md R96, R97). -/
inductive Family where
  | reset
  | mibWrite
  | mibErase
  | ping
  | phy
  | dl
deriving DecidableEq, Repr

/-- The four variants of a family, BASE + 0, 1, 2, 3 (30_encoding.md R96). -/
inductive Variant where
  | req
  | cnf
  | ind
  | err
deriving DecidableEq, Repr

/-- The Timeout registers of the engine, named in the order of 40_timeout.md. -/
inductive TimeoutId where
  | rx
  | status
  | ack
  | cnf
  | ldrFail
  | ldrPing
  | init
deriving DecidableEq, Repr

/-- The `format` column of spec/opcode_table.json: the space an encoding is read in. Events and operations are numbered in
one space (30_encoding.md R112); a wire byte, a header byte and a command byte are read by the state the engine is in (R108,
R99, R96). -/
inductive Space where
  | event
  | wireFrame
  | firstByte
  | wireStatus
  | header
  | command
deriving DecidableEq, Repr

/-- One slot of the environment's trace: an encoding and the space it is read in (log entries 1 and 2). -/
structure Slot where
  space : Space
  bytes : Bytes
deriving DecidableEq, Repr

/-- The instructions: one constructor per row of spec/opcode_table.json. -/
inductive Instr where
  -- events EV01-EV10 (30_encoding.md R112)
  | rxByte (b : Byte)
  | txReady
  | uartShift
  | clockAdvance (n : Word32)
  | sessionPoll
  | drvInit
  | hostOutPush (buf : Bytes)
  | hostInPop
  | reset
  | drvSetReady
  -- operations OP11-OP27 (30_encoding.md R112)
  | seqEnqueue (f : Frame) (tag : SenderTag)
  | seqPoll
  | drvResetReq
  | drvMibWrite (index : Byte) (buf : Bytes)
  | drvMibErase (index : Byte)
  | drvPing (buf : Bytes)
  | drvPhyData (buf : Bytes)
  | drvDlData (buf : Bytes)
  | drvData (buf : Bytes)
  | drvReceiveFrame
  | checksum (command length : Byte) (payload : Bytes)
  | frameNew (start length command : Byte) (payload : Bytes)
  | frameChecksum (f : Frame)
  | frameSerialise (f : Frame)
  | timeoutSet (t : TimeoutId) (ms : Word16)
  | timeoutExpired (t : TimeoutId)
  | timeoutDisarm (t : TimeoutId)
  -- wire objects (30_encoding.md R90-R94, R108)
  | frame (stx : Stx) (command : Byte) (payload : Bytes) (lsb msb : Byte)
  | stxRequest
  | stxIndication
  | ack
  | nak
  | stxStatus
  | statusSequence (s : Byte)
  | desync (b : Byte)
  -- application headers (30_encoding.md R99, R106)
  | hdrIdle (data : Bytes)
  | hdrData (data : Bytes)
  | hdrPing (data : Bytes)
  | hdrReserved (header : Option Byte) (data : Bytes)
  -- command codes (30_encoding.md R97, R105)
  | resetReq (stx : Stx) (payload : Bytes)
  | resetCnf (stx : Stx) (payload : Bytes)
  | resetInd (stx : Stx) (payload : Bytes)
  | resetErr (stx : Stx) (payload : Bytes)
  | mibWriteReq (stx : Stx) (payload : Bytes)
  | mibWriteCnf (stx : Stx) (payload : Bytes)
  | mibWriteUnused2 (stx : Stx) (payload : Bytes)
  | mibWriteErr (stx : Stx) (payload : Bytes)
  | mibEraseReq (stx : Stx) (payload : Bytes)
  | mibEraseCnf (stx : Stx) (payload : Bytes)
  | mibEraseUnused2 (stx : Stx) (payload : Bytes)
  | mibEraseErr (stx : Stx) (payload : Bytes)
  | pingReq (stx : Stx) (payload : Bytes)
  | pingCnf (stx : Stx) (payload : Bytes)
  | pingUnused2 (stx : Stx) (payload : Bytes)
  | pingErr (stx : Stx) (payload : Bytes)
  | phyReq (stx : Stx) (payload : Bytes)
  | phyCnf (stx : Stx) (payload : Bytes)
  | phyInd (stx : Stx) (payload : Bytes)
  | phyErr (stx : Stx) (payload : Bytes)
  | dlReq (stx : Stx) (payload : Bytes)
  | dlCnf (stx : Stx) (payload : Bytes)
  | dlInd (stx : Stx) (payload : Bytes)
  | dlErr (stx : Stx) (payload : Bytes)
  | commandReserved (code : Byte) (stx : Stx) (payload : Bytes)
deriving DecidableEq, Repr

end Sys2Proof
end

