-- ==== Sys2Proof/Decode.lean ====
section
/-! DEFINITION. The command codes, the first-byte classes, the decoder from a slot of the trace to an instruction (total,
rejecting by name) and, after it, the encoder, both written from 30_encoding.md and the operand layouts of log entry 3. -/
namespace Sys2Proof

/-! ## Command codes (30_encoding.md R96-R98, R105) -/

/-- BASE_<family> (30_encoding.md R96). -/
def Build.base (b : Build) : Family → Byte
  | .reset => b.baseReset
  | .mibWrite => b.baseMibWrite
  | .mibErase => b.baseMibErase
  | .ping => b.basePing
  | .phy => b.basePhy
  | .dl => b.baseDl

/-- REQ = BASE, CNF = BASE + 1, IND = BASE + 2, ERR = BASE + 3 (30_encoding.md R96). -/
def Variant.offset : Variant → Byte
  | .req => 0
  | .cnf => 1
  | .ind => 2
  | .err => 3

/-- The command code of a family's variant (30_encoding.md R96, D40). -/
def Build.code (b : Build) (f : Family) (v : Variant) : Byte := b.base f + v.offset

/-- The twenty-one codes of the table of 30_encoding.md R97. -/
def tableCodes : List (Family × Variant) :=
  [(.reset, .req), (.reset, .cnf), (.reset, .ind), (.reset, .err),
   (.mibWrite, .req), (.mibWrite, .cnf), (.mibWrite, .err),
   (.mibErase, .req), (.mibErase, .cnf), (.mibErase, .err),
   (.ping, .req), (.ping, .cnf), (.ping, .err),
   (.phy, .req), (.phy, .cnf), (.phy, .ind), (.phy, .err),
   (.dl, .req), (.dl, .cnf), (.dl, .ind), (.dl, .err)]

/-- The three unused BASE + 2 codes (30_encoding.md R97, R105). -/
def unusedCodes : List (Family × Variant) :=
  [(.mibWrite, .ind), (.mibErase, .ind), (.ping, .ind)]

/-- The family and variant a COMMAND byte stands for: the table of R97 first, then the unused BASE + 2 codes. -/
def Build.findCode (b : Build) (c : Byte) : Option (Family × Variant) :=
  (tableCodes ++ unusedCodes).find? fun p => b.code p.1 p.2 == c

/-- IS_INDICATION(c) (30_encoding.md R98, D7). -/
def Build.isIndication (b : Build) (c : Byte) : Bool :=
  c == b.code .reset .ind || c == b.code .phy .ind || c == b.code .dl .ind

/-! ## First-byte classes (30_encoding.md R108) -/

/-- The classes of a byte received in rx_state FirstByte (30_encoding.md R108). -/
inductive FirstClass where
  | reply (r : Reply)
  | status
  | start (stx : Stx)
  | desync
deriving DecidableEq, Repr

/-- The first-byte decode (30_encoding.md R108, tested in the order of 42_rx_framer.md R150). -/
def classifyFirst (b : Byte) : FirstClass :=
  if b = Config.ackByte then .reply .ack
  else if b = Config.nakByte then .reply .nak
  else if b = Config.stxStatus then .status
  else if b = Config.stxRequest then .start .request
  else if b = Config.stxIndication then .start .indication
  else .desync

/-- The bytes read as a frame start (30_encoding.md R92). -/
def stxOf (b : Byte) : Option Stx :=
  if b = Config.stxRequest then some .request
  else if b = Config.stxIndication then some .indication
  else none

/-- The header a byte stands for (30_encoding.md R99); none for the reserved values (R106). -/
def headerOf (b : Byte) : Option Header :=
  if b = Config.hdrIdle then some .idle
  else if b = Config.hdrData then some .data
  else if b = Config.hdrPing then some .ping
  else none

/-! ## Decoder -/

/-- Why a slot decodes to no instruction. -/
inductive Reject where
  /-- The slot ends before the instruction does. -/
  | truncated
  /-- No event or operation has this id (30_encoding.md R112). -/
  | unknownEvent (id : Byte)
  /-- No SenderTag is numbered so (10_state.md R23). -/
  | badTag (b : Byte)
  /-- No Timeout is numbered so (40_timeout.md). -/
  | badTimeout (b : Byte)
  /-- A frame does not begin with this byte (30_encoding.md R92). -/
  | badStart (b : Byte)
  /-- A status sequence begins with STX_STATUS (30_encoding.md R94). -/
  | notStatus (b : Byte)
  /-- A frame's payload has at most 255 bytes (00_scope.md R9). -/
  | payloadTooLong
deriving DecidableEq, Repr

/-- The result of reading one operand: its value and the bytes after it. -/
abbrev Parse (α : Type) := Except Reject (α × Bytes)

/-- A one-byte operand. -/
def getByte : Bytes → Parse Byte
  | b :: r => .ok (b, r)
  | [] => .error .truncated

/-- A 16-bit operand, least significant byte first (log entry 3). -/
def getWord16 : Bytes → Parse Word16
  | lo :: hi :: r => .ok (word16 lo hi, r)
  | _ => .error .truncated

/-- A 32-bit operand, least significant byte first (log entry 3). -/
def getWord32 : Bytes → Parse Word32
  | b0 :: b1 :: b2 :: b3 :: r => .ok (b3 ++ b2 ++ b1 ++ b0, r)
  | _ => .error .truncated

/-- A byte-string operand: its length in two bytes, least significant first, then its bytes (log entry 3). -/
def getBuf (bs : Bytes) : Parse Bytes :=
  match getWord16 bs with
  | .error e => .error e
  | .ok (n, r) => if n.toNat ≤ r.length then .ok (r.take n.toNat, r.drop n.toNat) else .error .truncated

/-- A Frame operand: start, length, command, payload, checksum (log entry 3). -/
def getFrame : Bytes → Parse Frame
  | st :: len :: cmd :: r =>
    match getBuf r with
    | .error e => .error e
    | .ok (p, r) =>
      match getWord16 r with
      | .error e => .error e
      | .ok (k, r) => .ok ({ start := st, length := len, command := cmd, payload := p, checksum := k }, r)
  | _ => .error .truncated

/-- A SenderTag operand, numbered in the order of 10_state.md R23; Ping carries its payload (log entry 3). -/
def getTag : Bytes → Parse SenderTag
  | [] => .error .truncated
  | t :: r =>
    match t.toNat with
    | 0 => .ok (.inactive, r)
    | 1 => .ok (.reset, r)
    | 2 => .ok (.mibWrite, r)
    | 3 => .ok (.mibErase, r)
    | 4 => .ok (.dlData, r)
    | 5 => .ok (.phyData, r)
    | 6 =>
      match getBuf r with
      | .error e => .error e
      | .ok (p, r) => .ok (.ping p, r)
    | _ => .error (.badTag t)

/-- A Timeout operand, numbered in the order of 40_timeout.md (log entry 3). -/
def getTimeout : Bytes → Parse TimeoutId
  | [] => .error .truncated
  | t :: r =>
    match t.toNat with
    | 0 => .ok (.rx, r)
    | 1 => .ok (.status, r)
    | 2 => .ok (.ack, r)
    | 3 => .ok (.cnf, r)
    | 4 => .ok (.ldrFail, r)
    | 5 => .ok (.ldrPing, r)
    | 6 => .ok (.init, r)
    | _ => .error (.badTimeout t)

/-- An instruction with one operand. -/
def withOperand {α : Type} (get : Bytes → Parse α) (mk : α → Instr) (r : Bytes) : Parse Instr :=
  match get r with
  | .error e => .error e
  | .ok (a, r) => .ok (mk a, r)

/-- An instruction with two operands. -/
def withOperands {α β : Type} (getA : Bytes → Parse α) (getB : Bytes → Parse β) (mk : α → β → Instr) (r : Bytes) :
    Parse Instr :=
  match getA r with
  | .error e => .error e
  | .ok (a, r) => withOperand getB (mk a) r

/-- The event and operation space: the id EV01-EV10, OP11-OP27 (30_encoding.md R112), then the operands. -/
def decodeEvent : Bytes → Parse Instr
  | [] => .error .truncated
  | id :: r =>
    match id.toNat with
    | 1 => withOperand getByte .rxByte r
    | 2 => .ok (.txReady, r)
    | 3 => .ok (.uartShift, r)
    | 4 => withOperand getWord32 .clockAdvance r
    | 5 => .ok (.sessionPoll, r)
    | 6 => .ok (.drvInit, r)
    | 7 => withOperand getBuf .hostOutPush r
    | 8 => .ok (.hostInPop, r)
    | 9 => .ok (.reset, r)
    | 10 => .ok (.drvSetReady, r)
    | 11 => withOperands getFrame getTag .seqEnqueue r
    | 12 => .ok (.seqPoll, r)
    | 13 => .ok (.drvResetReq, r)
    | 14 => withOperands getByte getBuf .drvMibWrite r
    | 15 => withOperand getByte .drvMibErase r
    | 16 => withOperand getBuf .drvPing r
    | 17 => withOperand getBuf .drvPhyData r
    | 18 => withOperand getBuf .drvDlData r
    | 19 => withOperand getBuf .drvData r
    | 20 => .ok (.drvReceiveFrame, r)
    | 21 =>
      match r with
      | c :: l :: r => withOperand getBuf (.checksum c l) r
      | _ => .error .truncated
    | 22 =>
      match r with
      | st :: l :: c :: r => withOperand getBuf (.frameNew st l c) r
      | _ => .error .truncated
    | 23 => withOperand getFrame .frameChecksum r
    | 24 => withOperand getFrame .frameSerialise r
    | 25 => withOperands getTimeout getWord16 .timeoutSet r
    | 26 => withOperand getTimeout .timeoutExpired r
    | 27 => withOperand getTimeout .timeoutDisarm r
    | _ => .error (.unknownEvent id)

/-- The wire-frame space (30_encoding.md R90): START, LENGTH, COMMAND, LENGTH payload bytes, the checksum's two bytes. -/
def decodeWireFrame : Bytes → Parse Instr
  | st :: len :: cmd :: r =>
    match stxOf st with
    | none => .error (.badStart st)
    | some stx =>
      if len.toNat ≤ r.length then
        match r.drop len.toNat with
        | lsb :: msb :: rest => .ok (.frame stx cmd (r.take len.toNat) lsb msb, rest)
        | _ => .error .truncated
      else .error .truncated
  | _ => .error .truncated

/-- The first-byte space (30_encoding.md R108): one byte, by its class. -/
def decodeFirstByte : Bytes → Parse Instr
  | [] => .error .truncated
  | b :: r =>
    match classifyFirst b with
    | .reply .ack => .ok (.ack, r)
    | .reply .nak => .ok (.nak, r)
    | .status => .ok (.stxStatus, r)
    | .start .request => .ok (.stxRequest, r)
    | .start .indication => .ok (.stxIndication, r)
    | .desync => .ok (.desync b, r)

/-- The status-sequence space (30_encoding.md R94): STX_STATUS, then the status byte. -/
def decodeWireStatus : Bytes → Parse Instr
  | m :: r => if m = Config.stxStatus then withOperand getByte .statusSequence r else .error (.notStatus m)
  | [] => .error .truncated

/-- The application-header space (30_encoding.md R99, R103, R106): the application payload, header first; an empty one has no
header. -/
def decodeHeader : Bytes → Parse Instr
  | [] => .ok (.hdrReserved none [], [])
  | h :: d =>
    match headerOf h with
    | some .idle => .ok (.hdrIdle d, [])
    | some .data => .ok (.hdrData d, [])
    | some .ping => .ok (.hdrPing d, [])
    | none => .ok (.hdrReserved (some h) d, [])

/-- The instruction of a command code (rows RESET_REQ to DL_ERR of spec/opcode_table.json). -/
def commandInstr : Family × Variant → Stx → Bytes → Instr
  | (.reset, .req) => .resetReq
  | (.reset, .cnf) => .resetCnf
  | (.reset, .ind) => .resetInd
  | (.reset, .err) => .resetErr
  | (.mibWrite, .req) => .mibWriteReq
  | (.mibWrite, .cnf) => .mibWriteCnf
  | (.mibWrite, .ind) => .mibWriteUnused2
  | (.mibWrite, .err) => .mibWriteErr
  | (.mibErase, .req) => .mibEraseReq
  | (.mibErase, .cnf) => .mibEraseCnf
  | (.mibErase, .ind) => .mibEraseUnused2
  | (.mibErase, .err) => .mibEraseErr
  | (.ping, .req) => .pingReq
  | (.ping, .cnf) => .pingCnf
  | (.ping, .ind) => .pingUnused2
  | (.ping, .err) => .pingErr
  | (.phy, .req) => .phyReq
  | (.phy, .cnf) => .phyCnf
  | (.phy, .ind) => .phyInd
  | (.phy, .err) => .phyErr
  | (.dl, .req) => .dlReq
  | (.dl, .cnf) => .dlCnf
  | (.dl, .ind) => .dlInd
  | (.dl, .err) => .dlErr

/-- The instruction a COMMAND byte stands for under a build; a byte outside the table is COMMAND_RESERVED (R105). -/
def instrOfCode (b : Build) (c : Byte) : Stx → Bytes → Instr :=
  match b.findCode c with
  | some p => commandInstr p
  | none => .commandReserved c

/-- The start-byte operand of the command space: bit `t` of the FRAME row, 0 for STX_REQUEST and 1 for STX_INDICATION (log
entry 3). -/
def getStx : Bytes → Parse Stx
  | [] => .error .truncated
  | t :: r => if t = 0 then .ok (.request, r) else if t = 1 then .ok (.indication, r) else .error (.badStart t)

/-- A frame-payload operand: at most 255 bytes (00_scope.md R9). -/
def getPayload (bs : Bytes) : Parse Bytes :=
  match getBuf bs with
  | .error e => .error e
  | .ok (p, r) => if p.length ≤ Config.maxPayload then .ok (p, r) else .error .payloadTooLong

/-- The command-code space (30_encoding.md R97, R105): COMMAND, then the start byte's bit and the payload (log entry 3). -/
def decodeCommand (b : Build) : Bytes → Parse Instr
  | [] => .error .truncated
  | c :: r => withOperands getStx getPayload (instrOfCode b c) r

/-- The decoder: the instruction a slot holds, and the bytes of the slot after it. -/
def decode (b : Build) (slot : Slot) : Parse Instr :=
  match slot.space with
  | .event => decodeEvent slot.bytes
  | .wireFrame => decodeWireFrame slot.bytes
  | .firstByte => decodeFirstByte slot.bytes
  | .wireStatus => decodeWireStatus slot.bytes
  | .header => decodeHeader slot.bytes
  | .command => decodeCommand b slot.bytes

/-! ## Encoder -/

/-- A 16-bit operand's bytes (log entry 3). -/
def putWord16 (w : Word16) : Bytes := [lowByte w, highByte w]

/-- A 32-bit operand's bytes (log entry 3). -/
def putWord32 (w : Word32) : Bytes :=
  [w.extractLsb' 0 8, w.extractLsb' 8 8, w.extractLsb' 16 8, w.extractLsb' 24 8]

/-- A byte-string operand's bytes (log entry 3). -/
def putBuf (p : Bytes) : Bytes := putWord16 (BitVec.ofNat 16 p.length) ++ p

/-- A Frame operand's bytes (log entry 3). -/
def putFrame (f : Frame) : Bytes :=
  f.start :: f.length :: f.command :: (putBuf f.payload ++ putWord16 f.checksum)

/-- A SenderTag operand's bytes (log entry 3). -/
def putTag : SenderTag → Bytes
  | .inactive => [0]
  | .reset => [1]
  | .mibWrite => [2]
  | .mibErase => [3]
  | .dlData => [4]
  | .phyData => [5]
  | .ping p => 6 :: putBuf p

/-- A Timeout operand's byte (log entry 3). -/
def putTimeout : TimeoutId → Byte
  | .rx => 0
  | .status => 1
  | .ack => 2
  | .cnf => 3
  | .ldrFail => 4
  | .ldrPing => 5
  | .init => 6

/-- The start-byte operand's byte (log entry 3). -/
def putStx : Stx → Byte
  | .request => 0
  | .indication => 1

/-- The slot of an event or an operation. -/
def eventSlot (id : Byte) (operands : Bytes) : Slot := { space := .event, bytes := id :: operands }

/-- The slot of a command code. -/
def commandSlot (code : Byte) (stx : Stx) (payload : Bytes) : Slot :=
  { space := .command, bytes := code :: putStx stx :: putBuf payload }

/-- The slot of an application header. -/
def headerSlot (payload : Bytes) : Slot := { space := .header, bytes := payload }

/-- The slot of one wire byte read at FirstByte. -/
def firstByteSlot (byte : Byte) : Slot := { space := .firstByte, bytes := [byte] }

/-- The encoder: the slot of an instruction under a build, from the same tables as the decoder. -/
def encode (b : Build) : Instr → Slot
  | .rxByte x => eventSlot 0x01 [x]
  | .txReady => eventSlot 0x02 []
  | .uartShift => eventSlot 0x03 []
  | .clockAdvance n => eventSlot 0x04 (putWord32 n)
  | .sessionPoll => eventSlot 0x05 []
  | .drvInit => eventSlot 0x06 []
  | .hostOutPush buf => eventSlot 0x07 (putBuf buf)
  | .hostInPop => eventSlot 0x08 []
  | .reset => eventSlot 0x09 []
  | .drvSetReady => eventSlot 0x0A []
  | .seqEnqueue f tag => eventSlot 0x0B (putFrame f ++ putTag tag)
  | .seqPoll => eventSlot 0x0C []
  | .drvResetReq => eventSlot 0x0D []
  | .drvMibWrite i buf => eventSlot 0x0E (i :: putBuf buf)
  | .drvMibErase i => eventSlot 0x0F [i]
  | .drvPing buf => eventSlot 0x10 (putBuf buf)
  | .drvPhyData buf => eventSlot 0x11 (putBuf buf)
  | .drvDlData buf => eventSlot 0x12 (putBuf buf)
  | .drvData buf => eventSlot 0x13 (putBuf buf)
  | .drvReceiveFrame => eventSlot 0x14 []
  | .checksum c l p => eventSlot 0x15 (c :: l :: putBuf p)
  | .frameNew st l c p => eventSlot 0x16 (st :: l :: c :: putBuf p)
  | .frameChecksum f => eventSlot 0x17 (putFrame f)
  | .frameSerialise f => eventSlot 0x18 (putFrame f)
  | .timeoutSet t ms => eventSlot 0x19 (putTimeout t :: putWord16 ms)
  | .timeoutExpired t => eventSlot 0x1A [putTimeout t]
  | .timeoutDisarm t => eventSlot 0x1B [putTimeout t]
  | .frame stx c p lsb msb =>
    { space := .wireFrame, bytes := stx.byte :: BitVec.ofNat 8 p.length :: c :: (p ++ [lsb, msb]) }
  | .stxRequest => firstByteSlot Config.stxRequest
  | .stxIndication => firstByteSlot Config.stxIndication
  | .ack => firstByteSlot Config.ackByte
  | .nak => firstByteSlot Config.nakByte
  | .stxStatus => firstByteSlot Config.stxStatus
  | .statusSequence s => { space := .wireStatus, bytes := [Config.stxStatus, s] }
  | .desync x => firstByteSlot x
  | .hdrIdle d => headerSlot (Config.hdrIdle :: d)
  | .hdrData d => headerSlot (Config.hdrData :: d)
  | .hdrPing d => headerSlot (Config.hdrPing :: d)
  | .hdrReserved (some h) d => headerSlot (h :: d)
  | .hdrReserved none _ => headerSlot []
  | .resetReq t p => commandSlot (b.code .reset .req) t p
  | .resetCnf t p => commandSlot (b.code .reset .cnf) t p
  | .resetInd t p => commandSlot (b.code .reset .ind) t p
  | .resetErr t p => commandSlot (b.code .reset .err) t p
  | .mibWriteReq t p => commandSlot (b.code .mibWrite .req) t p
  | .mibWriteCnf t p => commandSlot (b.code .mibWrite .cnf) t p
  | .mibWriteUnused2 t p => commandSlot (b.code .mibWrite .ind) t p
  | .mibWriteErr t p => commandSlot (b.code .mibWrite .err) t p
  | .mibEraseReq t p => commandSlot (b.code .mibErase .req) t p
  | .mibEraseCnf t p => commandSlot (b.code .mibErase .cnf) t p
  | .mibEraseUnused2 t p => commandSlot (b.code .mibErase .ind) t p
  | .mibEraseErr t p => commandSlot (b.code .mibErase .err) t p
  | .pingReq t p => commandSlot (b.code .ping .req) t p
  | .pingCnf t p => commandSlot (b.code .ping .cnf) t p
  | .pingUnused2 t p => commandSlot (b.code .ping .ind) t p
  | .pingErr t p => commandSlot (b.code .ping .err) t p
  | .phyReq t p => commandSlot (b.code .phy .req) t p
  | .phyCnf t p => commandSlot (b.code .phy .cnf) t p
  | .phyInd t p => commandSlot (b.code .phy .ind) t p
  | .phyErr t p => commandSlot (b.code .phy .err) t p
  | .dlReq t p => commandSlot (b.code .dl .req) t p
  | .dlCnf t p => commandSlot (b.code .dl .cnf) t p
  | .dlInd t p => commandSlot (b.code .dl .ind) t p
  | .dlErr t p => commandSlot (b.code .dl .err) t p
  | .commandReserved c t p => commandSlot c t p

/-! ## Words of spec/opcode_table.json -/

/-- The bytes of a table word of `n` bytes, most significant byte first: the table's own numbering puts the first wire byte of
a row in its highest bits (STATUS_SEQUENCE: 0x3F in bits 15..8; log entry 4). -/
def tableBytes : Nat → Nat → Bytes
  | 0, _ => []
  | n + 1, w => BitVec.ofNat 8 (w >>> (8 * n)) :: tableBytes n w

/-- The space a bare table word is read in. The table does not say it and the rows overlap; the order is: an event or
operation id, the status marker, a header byte, a code of the default build's table, else a first byte (log entry 2). -/
def tableSpace : Bytes → Space
  | [] => .event
  | [b] =>
    if 1 ≤ b.toNat && b.toNat ≤ 27 then .event
    else if b = Config.stxStatus then .firstByte
    else if (headerOf b).isSome then .header
    else if (Build.default.findCode b).isSome then .command
    else .firstByte
  | b :: rest =>
    if b = Config.stxStatus && rest.length == 1 then .wireStatus
    else if (stxOf b).isSome && 4 ≤ rest.length then .wireFrame
    else .event

/-- The zero bytes above a table word, where the space has operands that the table gives no bits. -/
def operandZeros : Space → Bytes
  | .event => List.replicate 16 0
  | .command => List.replicate 16 0
  | _ => []

/-- The slot of a table word. -/
def tableSlot (nbits w : Nat) : Slot :=
  let bytes := tableBytes ((nbits + 7) / 8) w
  let space := tableSpace bytes
  { space := space, bytes := bytes ++ operandZeros space }

/-- The instruction the decoder reads from a word of spec/opcode_table.json, under the default build. -/
def decodeTableWord (nbits w : Nat) : Option Instr :=
  match decode Build.default (tableSlot nbits w) with
  | .ok (i, _) => some i
  | .error _ => none

end Sys2Proof
end

