-- ==== Sys2Proof/Machine/State.lean ====
section
/-! DEFINITION. The state of the engine (10_state.md): every register, signal, line, queue and Timeout the spec names,
grouped by the agent that owns it, the environment's side of it, and the model's own bookkeeping; the faults and refusals a
step can end in; the reset state (70_reset_and_hazards.md R340). State is plain data. -/
namespace Sys2Proof.Machine

/-! ## Error values and fatal reasons (60_exceptions.md) -/

/-- The error values of 60_exceptions.md R300. -/
inductive Error where
  | txErrNoStatus
  | txErrBusy
  | txErrAckTmo
  | txErrNak
  | errTimeout
  | errConfirm
  | errPing
  | errArgs
  /-- Never returned (44_driver.md R210). -/
  | errBufLen
deriving DecidableEq, Repr

/-- The error's code (60_exceptions.md R300). -/
def Error.code : Error → Nat
  | .txErrNoStatus => 1
  | .txErrBusy => 2
  | .txErrAckTmo => 3
  | .txErrNak => 4
  | .errTimeout => 5
  | .errConfirm => 6
  | .errPing => 7
  | .errArgs => 8
  | .errBufLen => 9

/-- The fatal reasons F1-F14 of 60_exceptions.md R307. -/
inductive FatalReason where
  | indQueueFull
  | cnfQueueFull
  | statusQueueFull
  | ackQueueFull
  | txQueueFull
  | seqEnqueueBusy
  | seqPollInactive
  | leaderFatalTxError
  | followerFatalTxError
  | leaderGotPing
  | followerPingOneWay
  | allocFail
  | frameInvariant
  | spscViolation
deriving DecidableEq, Repr

/-- The fatal reason's number (60_exceptions.md R307). -/
def FatalReason.code : FatalReason → Nat
  | .indQueueFull => 1
  | .cnfQueueFull => 2
  | .statusQueueFull => 3
  | .ackQueueFull => 4
  | .txQueueFull => 5
  | .seqEnqueueBusy => 6
  | .seqPollInactive => 7
  | .leaderFatalTxError => 8
  | .followerFatalTxError => 9
  | .leaderGotPing => 10
  | .followerPingOneWay => 11
  | .allocFail => 12
  | .frameInvariant => 13
  | .spscViolation => 14

/-! ## Registers -/

/-- A Timeout record (10_state.md R43). -/
structure Timeout where
  armed    : Bool
  start    : Word32
  duration : Word32
deriving DecidableEq, Repr

/-- The reset value of a Timeout (10_state.md R43). -/
def Timeout.disarmed : Timeout := { armed := false, start := 0, duration := 0 }

/-- rx_state (10_state.md R25). -/
inductive RxState where
  | firstByte
  | statusValue
  | length
  | command
  | data
  | checksumLsb
  | checksumMsb
deriving DecidableEq, Repr

/-- The RX framer's registers (10_state.md R25). -/
structure RxRegs where
  state  : RxState
  start  : Byte
  len    : Byte
  cmd    : Byte
  data   : Bytes
  csumLo : Byte
  tmo    : Timeout
deriving DecidableEq, Repr

/-- The cross-context signals (10_state.md R26-R32). -/
structure Signals where
  ackWait      : Bool
  statusWait   : Bool
  readyGate    : Bool
  txActive     : Bool
  txIe         : Bool
  txDone       : Bool
  pendingReply : Option Reply
deriving DecidableEq, Repr

/-- A GPIO level (10_state.md R33). -/
inductive Level where
  | low
  | high
deriving DecidableEq, Repr

/-- The two GPIO output lines (10_state.md R33, R34). -/
structure Lines where
  txreq : Level
  reset : Level
deriving DecidableEq, Repr

/-- tx_state (10_state.md R35). -/
inductive TxState where
  | sendStx
  | sendLength
  | sendCommand
  | sendData
  | sendChecksumLsb
  | sendChecksumMsb
  | txDone
deriving DecidableEq, Repr

/-- The TX framer's registers (10_state.md R35). -/
structure TxRegs where
  state : TxState
  frame : Option Frame
  idx   : Nat
deriving DecidableEq, Repr

/-- The seven bounded FIFO queues (10_state.md R36). -/
structure Queues where
  ind    : List Frame
  cnf    : List Frame
  status : Bytes
  ack    : List Reply
  tx     : List Frame
  usbOut : List Bytes
  usbIn  : List Bytes
deriving DecidableEq, Repr

/-- seq_state (10_state.md R37). -/
inductive SeqState where
  | txreqLow
  | waitStatusFrame
  | waitTxFrameDone
  | waitAck
  | waitCnf
deriving DecidableEq, Repr

/-- The sequencer's registers (10_state.md R37). -/
structure SeqRegs where
  state     : SeqState
  tag       : SenderTag
  frame     : Option Frame
  tmoStatus : Timeout
  tmoAck    : Timeout
  tmoCnf    : Timeout
deriving DecidableEq, Repr

/-- ldr_state (10_state.md R38). -/
inductive LdrState where
  | dispatch
  | sendData
  | sendPing
  | waitPing
deriving DecidableEq, Repr

/-- The Leader session's registers (10_state.md R38). They exist only when ROLE = Leader; in a Follower build they keep their
reset values, since nothing reads or writes them (log entry 24). -/
structure LdrRegs where
  state   : LdrState
  failTmo : Timeout
  pingTmo : Timeout
deriving DecidableEq, Repr

/-- flw_state (10_state.md R39). It exists only when ROLE = Follower (log entry 24). -/
inductive FlwState where
  | wait
  | send
deriving DecidableEq, Repr

/-- init_phase (10_state.md R42). -/
inductive InitPhase where
  | notStarted
  | resetLow
  | waitInd
  | done
deriving DecidableEq, Repr

/-- The init registers (10_state.md R42). -/
structure InitRegs where
  phase : InitPhase
  tmo   : Timeout
deriving DecidableEq, Repr

/-- The UART transmit side (10_state.md R40). -/
structure Uart where
  thrEmpty : Bool
  wireOut  : Bytes
deriving DecidableEq, Repr

/-! ## A task event in progress (20_memory.md R72 (b), 60_exceptions.md R315) -/

/-- The next primitive step of DRV_INIT (44_driver.md R209). -/
inductive InitPoint where
  | lineLow
  | armLow
  | checkLow
  | lineHigh
  | armPoll
  | checkPoll
  | takeInd
  | disarm
  | rearm
deriving DecidableEq, Repr

/-- The next primitive step of SEQ_POLL (45_sequencer.md R231-R238). -/
inductive SeqPoint where
  | clearDone
  | drain
  | lineLow
  | armStatus
  | setStatusWait
  | takeStatus
  | busyLine
  | release
  | enableIrq
  | signalActive
  | checkStatus
  | noStatusLine
  | readDone
  | armAck
  | setAckWait
  | takeAck
  | armCnf
  | checkAck
  | takeCnf
  | checkCnf
deriving DecidableEq, Repr

/-- Who called SEQ_POLL, and so gets its result: a direct call of OP12, or the session in one of its states. -/
inductive Caller where
  | direct
  | ldrSendData
  | ldrSendPing
  | flwSend
deriving DecidableEq, Repr

/-- The next primitive step of the Leader's SESSION_POLL outside SEQ_POLL (46_session.md R260-R264). -/
inductive LdrPoint where
  | checkBackoff
  | disarmBackoff
  | takeOut
  | armFail
  | armPing
  | checkPing
  | takeInd
  | putIn (d : Bytes)
deriving DecidableEq, Repr

/-- The next primitive step of the Follower's SESSION_POLL outside SEQ_POLL (46_session.md R270, R271). -/
inductive FlwPoint where
  | takeInd
  | putIn (d : Bytes)
  | takeOut
deriving DecidableEq, Repr

/-- Where a task event that has begun goes on: its next primitive step, with its local values (60_exceptions.md R315). -/
inductive TaskPoint where
  | init (p : InitPoint)
  | seq (k : Caller) (p : SeqPoint)
  | ldr (p : LdrPoint)
  | flw (p : FlwPoint)
deriving DecidableEq, Repr

/-! ## Results and the environment's side -/

/-- PollResult (10_state.md R44). -/
inductive PollResult where
  | wouldBlock
  | ready (f : Frame)
  | fail (e : Error)
deriving DecidableEq, Repr

/-- The value an operation or an event returns to the one who called it. -/
inductive Result where
  | none
  /-- SEQ_POLL (45_sequencer.md R231). -/
  | poll (r : PollResult)
  /-- A builder's Ok(f, tag) (44_driver.md section 1). -/
  | built (f : Frame) (tag : SenderTag)
  /-- A builder's Err(e) (44_driver.md section 1). -/
  | failed (e : Error)
  /-- DRV_RECEIVE_FRAME (44_driver.md R207). -/
  | received (f : Option Frame)
  /-- HOST_IN_POP: what the host receives (46_session.md R281). -/
  | popped (buf : Option Bytes)
  /-- CHECKSUM and FRAME_CHECKSUM (41_frame_codec.md R130, R132). -/
  | checksum (v : Word16)
  /-- FRAME_NEW (41_frame_codec.md R131). -/
  | frame (f : Frame)
  /-- FRAME_SERIALISE (41_frame_codec.md R134). -/
  | bytes (bs : Bytes)
  /-- TIMEOUT_EXPIRED (40_timeout.md R122). -/
  | flag (b : Bool)
deriving DecidableEq, Repr

/-- The environment's choices that are still to come, as plain data, and the counters of the free values (log entries 1, 7, 8,
9, 23). -/
structure Env where
  /-- The scheduled events, one slot each, in the global order of 20_memory.md R73. -/
  trace   : List Slot
  /-- For each coming run of a task event: after how many primitive steps interrupt events come in (R72 (b)). When the list
  is empty, a task event runs to its end. -/
  preempt : List Nat
  /-- The allocator's coming draws (R77), true for ok. When the list is empty, it answers ok. -/
  alloc   : List Bool
  /-- How many RESET events there were: the argument of the clock's draw (R342). -/
  resets  : Nat
  /-- How often SEQ_ENQUEUE stored a frame that the spec does not state: the argument of that free value (log entry 23). -/
  unstated : Nat
deriving DecidableEq, Repr

/-- The state of the engine and of its environment. -/
structure State where
  /-- The build parameters (00_scope.md R8); nothing writes them. -/
  build  : Build
  rx     : RxRegs
  sig    : Signals
  line   : Lines
  tx     : TxRegs
  q      : Queues
  seq    : SeqRegs
  ldr    : LdrRegs
  flw    : FlwState
  init   : InitRegs
  uart   : Uart
  /-- The monotonic clock (10_state.md R40, 60_exceptions.md R322). -/
  clock  : Word32
  /-- The fatal fault state (10_state.md R41). -/
  fatal  : Option FatalReason
  /-- The task event in progress, when interrupt events have come in between two of its primitive steps (log entry 9). -/
  task   : Option TaskPoint
  /-- The value the last operation or HOST_IN_POP returned (log entry 11). -/
  result : Result
  env    : Env
deriving DecidableEq, Repr

/-! ## Faults and refusals -/

/-- Guards for states that no run reaches (log entry 19). Safe: the machine stops, and the invariant of Safety.lean rules each
out. The spec's own fatal faults are states, not these: `fatal` of State (60_exceptions.md R306). -/
inductive Fault where
  /-- Raised by TX_READY when tx_state is past SendStx and tx_frame is none, against 10_state.md R46 (d). Safe. -/
  | txFrameMissing
  /-- Raised by TX_READY in SendData when tx_idx is no index of the payload, against 43_tx_framer.md R185. Safe. -/
  | txIndexOut
  /-- Raised by SESSION_POLL or SEQ_POLL when the status allows the frame and seq_frame is none, against 45_sequencer.md R234.
  Safe. -/
  | seqFrameMissing
deriving DecidableEq, Repr

/-- The refusals of 60_exceptions.md R308 and 93_implementation_defined.md I6-I8: "the model must not define its result". -/
inductive Refusal where
  /-- Raised by exec's arm of an instruction that has no meaning yet. Safe. -/
  | notModelled (mnemonic : String)
  /-- Raised by every event but RESET whose enabling condition is false (30_encoding.md R112, I8). Safe. -/
  | notEnabled
  /-- Raised by SEQ_ENQUEUE with tag Inactive (45_sequencer.md R230, I6). Safe. -/
  | inactiveTag
  /-- Raised by HOST_OUT_PUSH of an empty buffer or one over 255 bytes (46_session.md R280, I7), and by a header row whose
  data no frame can carry (00_scope.md R9). Safe. -/
  | badBuffer
  /-- Raised by CLOCK_ADVANCE(0) (60_exceptions.md R322: n ≥ 1). Safe. -/
  | zeroAdvance
  /-- Raised by a Timeout operation on a Leader's Timeout in a Follower build (10_state.md R38). Safe. -/
  | absentTimeout
  /-- Raised by step on a slot of the trace that encodes no instruction. Safe. -/
  | undecodable (r : Reject)
deriving DecidableEq, Repr

/-! ## Reset -/

/-- The engine's registers after RESET (70_reset_and_hazards.md R340), for a build, a clock draw (R342) and an environment. -/
def State.atReset (build : Build) (clock : Word32) (env : Env) : State where
  build := build
  rx := { state := .firstByte, start := 0, len := 0, cmd := 0, data := [], csumLo := 0, tmo := .disarmed }
  sig := { ackWait := false, statusWait := false, readyGate := false, txActive := false, txIe := false, txDone := false,
           pendingReply := none }
  line := { txreq := .high, reset := .high }
  tx := { state := .sendStx, frame := none, idx := 0 }
  q := { ind := [], cnf := [], status := [], ack := [], tx := [], usbOut := [], usbIn := [] }
  seq := { state := .txreqLow, tag := .inactive, frame := none, tmoStatus := .disarmed, tmoAck := .disarmed,
           tmoCnf := .disarmed }
  ldr := { state := .dispatch, failTmo := .disarmed, pingTmo := .disarmed }
  flw := .wait
  init := { phase := .notStarted, tmo := .disarmed }
  uart := { thrEmpty := true, wireOut := [] }
  clock := clock
  fatal := none
  task := none
  result := .none
  env := env

/-- The machine right after reset: 70_reset_and_hazards.md R340, with the default build, the clock at 0 and nothing
scheduled (DESIGN CHOICE: log entries 1, 5 and 7). -/
def State.reset : State :=
  State.atReset Build.default 0 { trace := [], preempt := [], alloc := [], resets := 0, unstated := 0 }

end Sys2Proof.Machine
end

