-- ==== Sys2Proof/Machine/Ops.lean ====
section
/-! DEFINITION. The shared operations of 00_scope.md R14: raise Fatal (the one exception of the engine) and the return from
it, the queue primitives, the Timeout operations, Wire_Tx, SetLine, the allocation draw, and the bookkeeping of a task event
in progress. -/
namespace Sys2Proof.Machine

/-- The outcome of a step of this machine. -/
abbrev Out := Host.Outcome State Fault Refusal

/-! ## The fatal fault: the engine's one exception (60_exceptions.md R306) -/

/-- `raise Fatal(r)` (60_exceptions.md R306): fatal becomes some r and the event ends; writes made earlier in it stand. There is
no saved state, no mode and no handler (R313, R316). -/
def raise (r : FatalReason) (s : State) : State := { s with fatal := some r }

/-- The return from the fatal state, and the only one, is RESET (60_exceptions.md R306, 70_reset_and_hazards.md R340): every
register takes its reset value, the build parameters stay, the clock is a draw (R342, log entry 7), and what the environment has
scheduled is still to come (log entry 18). -/
def resetEngine (s : State) : State :=
  State.atReset s.build (Config.clockAtReset s.env.resets) { s.env with resets := s.env.resets + 1 }

/-- "While fatal ≠ none: no event other than RESET is enabled" (60_exceptions.md R306, 30_encoding.md R112). -/
def ifLive (s : State) (o : Out) : Out :=
  match s.fatal with
  | none => o
  | some _ => .refused .notEnabled

/-! ## Queues (20_memory.md R65-R68) -/

/-- Enqueue (20_memory.md R66): none is `full`. -/
def enqueue {α : Type} (cap : Nat) (q : List α) (v : α) : Option (List α) :=
  if q.length < cap then some (q ++ [v]) else none

/-- Dequeue (20_memory.md R67): the element, and the queue after it. -/
def dequeue {α : Type} : List α → Option (α × List α)
  | [] => none
  | v :: q => some (v, q)

/-- Enqueue on q_ind; a full queue is fatal (20_memory.md R69). -/
def enqueueInd (f : Frame) (s : State) : State :=
  match enqueue Config.capInd s.q.ind f with
  | some q => { s with q := { s.q with ind := q } }
  | none => raise .indQueueFull s

/-- Enqueue on q_cnf; a full queue is fatal (20_memory.md R69, D13). -/
def enqueueCnf (f : Frame) (s : State) : State :=
  match enqueue Config.capCnf s.q.cnf f with
  | some q => { s with q := { s.q with cnf := q } }
  | none => raise .cnfQueueFull s

/-- Enqueue on q_status; a full queue is fatal (20_memory.md R69, D13). -/
def enqueueStatus (b : Byte) (s : State) : State :=
  match enqueue Config.capStatus s.q.status b with
  | some q => { s with q := { s.q with status := q } }
  | none => raise .statusQueueFull s

/-- Enqueue on q_ack; a full queue is fatal (20_memory.md R69, D13). -/
def enqueueAck (r : Reply) (s : State) : State :=
  match enqueue Config.capAck s.q.ack r with
  | some q => { s with q := { s.q with ack := q } }
  | none => raise .ackQueueFull s

/-- Enqueue on q_usb_out; a full queue drops the element (20_memory.md R69, D35). -/
def enqueueUsbOut (b : Bytes) (s : State) : State :=
  match enqueue Config.capUsbOut s.q.usbOut b with
  | some q => { s with q := { s.q with usbOut := q } }
  | none => s

/-- Enqueue on q_usb_in; a full queue drops the element (20_memory.md R69, D35). -/
def enqueueUsbIn (b : Bytes) (s : State) : State :=
  match enqueue Config.capUsbIn s.q.usbIn b with
  | some q => { s with q := { s.q with usbIn := q } }
  | none => s

/-! ## Timeouts (40_timeout.md R120-R124) -/

/-- `ms * TICKS_PER_MS` as a u32 (40_timeout.md R121); it fits by 00_scope.md R10. -/
def ticks (rate : TickRate) (ms : Nat) : Word32 := BitVec.ofNat 32 (ms * rate.perMs)

/-- TimeoutSet (40_timeout.md R121): armed, from the current clock. -/
def armed (s : State) (ms : Nat) : Timeout := { armed := true, start := s.clock, duration := ticks s.build.tickRate ms }

/-- Expired (40_timeout.md R122): armed, and `now() -32 start >= duration`. -/
def expired (s : State) (t : Timeout) : Bool := t.armed && t.duration ≤ s.clock - t.start

/-- Disarm (40_timeout.md R123): start and duration are kept. -/
def Timeout.disarm (t : Timeout) : Timeout := { t with armed := false }

/-- "Running": armed and not expired (40_timeout.md R124). -/
def running (s : State) (t : Timeout) : Bool := t.armed && !expired s t

/-! ## UART, lines, allocator -/

/-- Wire_Tx (43_tx_framer.md R190). -/
def wireTx (b : Byte) (s : State) : State :=
  { s with uart := { thrEmpty := false, wireOut := s.uart.wireOut ++ [b] } }

/-- SetLine on txreq_line (20_memory.md R76). -/
def setTxreq (l : Level) (s : State) : State := { s with line := { s.line with txreq := l } }

/-- SetLine on reset_line (20_memory.md R76). -/
def setResetLine (l : Level) (s : State) : State := { s with line := { s.line with reset := l } }

/-- The draw at an allocation point (20_memory.md R77, D29): true is ok, false is exhausted (log entry 8). -/
def drawAlloc (s : State) : Bool × State :=
  match s.env.alloc with
  | [] => (true, s)
  | a :: rest => (a, { s with env := { s.env with alloc := rest } })

/-! ## A task event in progress (60_exceptions.md R315) -/

/-- The task event goes on at primitive step `p`. -/
def goto (p : TaskPoint) (s : State) : State := { s with task := some p }

/-- The task event ends: `return` (00_scope.md R15). -/
def endTask (s : State) : State := { s with task := none }

/-- A task event that raises Fatal ends there (60_exceptions.md R306). -/
def raiseInTask (r : FatalReason) (s : State) : State := endTask (raise r s)

end Sys2Proof.Machine
end

