-- ==== Sys2Proof/Machine/Codec.lean ====
section
/-! DEFINITION. The frame codec (41_frame_codec.md): the 16-bit wrapping sum, frame construction and serialisation, and
the operations OP21-OP24. -/
namespace Sys2Proof.Machine

/-- CHECKSUM (41_frame_codec.md R130): the wrapping 16-bit sum of command, length and the payload bytes present. -/
def checksumOf (command length : Byte) (payload : Bytes) : Word16 :=
  payload.foldl (fun s p => s + p.setWidth 16) (command.setWidth 16 + length.setWidth 16)

/-- A well-formed Frame (10_state.md R22). -/
def frameWf (f : Frame) : Bool :=
  f.payload.length ≤ Config.maxPayload && f.length.toNat = f.payload.length && (stxOf f.start).isSome
    && f.checksum = checksumOf f.command f.length f.payload

/-- The well-formed frame with this COMMAND byte (10_state.md R22). -/
def commandFrame (command : Byte) (stx : Stx) (payload : Bytes) : Frame :=
  { start := stx.byte, length := BitVec.ofNat 8 payload.length, command := command, payload := payload,
    checksum := checksumOf command (BitVec.ofNat 8 payload.length) payload }

/-- FRAME_NEW (41_frame_codec.md R131); none when its `require` fails. -/
def frameNew (start length command : Byte) (payload : Bytes) : Option Frame :=
  if payload.length ≤ Config.maxPayload && length.toNat = payload.length && (stxOf start).isSome then
    some { start := start, length := length, command := command, payload := payload,
           checksum := checksumOf command length payload }
  else none

/-- FRAME_CHECKSUM (41_frame_codec.md R132): recomputed from the fields, ignoring the stored checksum. -/
def frameChecksum (f : Frame) : Word16 := checksumOf f.command f.length f.payload

/-- FRAME_SERIALISE (41_frame_codec.md R134): the wire bytes (30_encoding.md R90), checksum little-endian (20_memory.md R61). -/
def serialise (f : Frame) : Bytes :=
  [f.start, f.length, f.command] ++ f.payload ++ [lowByte f.checksum, highByte f.checksum]

/-- OP21 CHECKSUM (41_frame_codec.md R130). DESIGN CHOICE (log entry 25): of a payload over 255 bytes, which R130 does not allow, the
model answers the same sum. -/
def execChecksum (command length : Byte) (payload : Bytes) (s : State) : Out :=
  ifLive s (.next { s with result := .checksum (checksumOf command length payload) })

/-- OP22 FRAME_NEW (41_frame_codec.md R131). Operands that break the Frame invariant raise Fatal(FRAME_INVARIANT), the effect
60_exceptions.md R308 lets a model give them (log entry 13). -/
def execFrameNew (start length command : Byte) (payload : Bytes) (s : State) : Out :=
  ifLive s <| .next <|
    match frameNew start length command payload with
    | some f => { s with result := .frame f }
    | none => raise .frameInvariant s

/-- OP23 FRAME_CHECKSUM (41_frame_codec.md R132), whatever checksum the operand stores. DESIGN CHOICE (log entry 25): of an operand
that breaks 10_state.md R22 otherwise (its length, its start byte, a payload over 255 bytes), the spec says nothing, and the model
answers the sum of the fields as they stand. -/
def execFrameChecksum (f : Frame) (s : State) : Out :=
  ifLive s (.next { s with result := .checksum (frameChecksum f) })

/-- OP24 FRAME_SERIALISE (41_frame_codec.md R134). DESIGN CHOICE (log entry 25): R134's operand is a well-formed Frame (10_state.md
R22); of any other the spec says nothing, and the model answers its fields as they stand. -/
def execFrameSerialise (f : Frame) (s : State) : Out :=
  ifLive s (.next { s with result := .bytes (serialise f) })

end Sys2Proof.Machine
end

