-- ==== Sys2Proof/Machine/Flags.lean ====
section
/-! DEFINITION. The engine has no arithmetic flags (10_state.md R45); this file holds its predicates: the busy test, the
expected confirmation codes, the recoverable errors, and the enabling conditions of the events. -/
namespace Sys2Proof.Machine

/-- The modem is busy iff `(status & BUSY_MASK) ≠ 0` (30_encoding.md R94, D18). -/
def busy (status : Byte) : Bool := status &&& Config.busyMask ≠ 0

/-- The family whose confirmation completes a request with this tag (30_encoding.md R100). -/
def tagFamily : SenderTag → Option Family
  | .inactive => none
  | .reset => some .reset
  | .mibWrite => some .mibWrite
  | .mibErase => some .mibErase
  | .ping _ => some .ping
  | .phyData => some .phy
  | .dlData => some .dl

/-- c ∈ EXPECTED(tag) (30_encoding.md R100): the family's CNF or ERR code. -/
def expected (b : Build) (tag : SenderTag) (c : Byte) : Bool :=
  match tagFamily tag with
  | none => false
  | some f => c == b.code f .cnf || c == b.code f .err

/-- RECOVERABLE_LEADER (46_session.md R265). -/
def recoverableLeader : Error → Bool
  | .txErrNoStatus | .txErrAckTmo | .txErrBusy | .txErrNak => true
  | _ => false

/-- RECOVERABLE_FOLLOWER (46_session.md R265, D27). -/
def recoverableFollower : Error → Bool
  | .txErrNoStatus | .txErrAckTmo => true
  | _ => false

/-- The sequencer is idle: `seq_state = TxreqLow and seq_tag = Inactive` (10_state.md R37). -/
def seqIdle (s : State) : Bool := s.seq.state = .txreqLow && s.seq.tag = .inactive

/-- TX_READY's condition beside fatal = none (43_tx_framer.md R180). -/
def txReadyEnabled (s : State) : Bool := s.sig.txIe && s.uart.thrEmpty

/-- DRV_INIT's condition beside fatal = none: init_phase ≠ Done (44_driver.md R212, 70_reset_and_hazards.md R343). -/
def initEnabled (s : State) : Bool := s.init.phase ≠ .done

/-- DRV_SET_READY while init is Done and the gate is closed (70_reset_and_hazards.md R343). -/
def setReadyEnabled (s : State) : Bool := s.init.phase = .done && !s.sig.readyGate && s.task.isNone

/-- SESSION_POLL once init is Done and the gate is open (70_reset_and_hazards.md R343). -/
def sessionEnabled (s : State) : Bool := s.init.phase = .done && s.sig.readyGate

end Sys2Proof.Machine
end

