-- ==== Sys2Proof/Machine/Rx.lean ====
section
/-! DEFINITION. The RX framer (42_rx_framer.md): RX_BYTE, one definition per receive state and first-byte class, and the
sub-operations ROUTE, ARM_REPLY and CSUM_FAIL. The whole event is one atomic step. -/
namespace Sys2Proof.Machine

/-- Step 1 of RX_BYTE (42_rx_framer.md R150): an expired inter-character timeout abandons the partial frame. -/
def rxExpire (s : State) : State :=
  if expired s s.rx.tmo then { s with rx := { s.rx with state := .firstByte, tmo := s.rx.tmo.disarm } } else s

/-- The per-byte re-arm at the end of R156-R159 (42_rx_framer.md R164). -/
def rxRearm (s : State) : State :=
  match s.build.rxRearm with
  | .perByte => { s with rx := { s.rx with tmo := armed s Config.tInterchar } }
  | .frameStartOnly => s

/-- FirstByte, ACK or NAK (42_rx_framer.md R151): ack/nak delivery or cross-cancellation. -/
def rxReply (r : Reply) (s : State) : State :=
  if s.sig.ackWait then
    let s1 := enqueueAck r s
    match s1.fatal with
    | some _ => s1
    | none => { s1 with sig := { s1.sig with ackWait := false } }
  else if s.sig.statusWait then { s with sig := { s.sig with statusWait := false } }
  else s

/-- FirstByte, STX_STATUS (42_rx_framer.md R152): start of a status sequence, or cross-cancellation. -/
def rxStatusMark (s : State) : State :=
  if s.sig.statusWait then { s with rx := { s.rx with state := .statusValue } }
  else { s with sig := { s.sig with ackWait := false } }

/-- FirstByte, STX_REQUEST or STX_INDICATION (42_rx_framer.md R153): start of a frame. -/
def rxFrameStart (b : Byte) (s : State) : State :=
  match drawAlloc s with
  | (false, s) => raise .allocFail s
  | (true, s) =>
    { s with rx := { state := .length, start := b, len := 0, cmd := 0, data := [], csumLo := 0,
                     tmo := armed s Config.tInterchar } }

/-- FirstByte, any other byte (42_rx_framer.md R154): the desync guard. -/
def rxDesync (s : State) : State := { s with sig := { s.sig with ackWait := false, statusWait := false } }

/-- FirstByte: by the class of the byte (42_rx_framer.md R150, 30_encoding.md R108). -/
def rxFirstByte (b : Byte) (s : State) : State :=
  match classifyFirst b with
  | .reply r => rxReply r s
  | .status => rxStatusMark s
  | .start _ => rxFrameStart b s
  | .desync => rxDesync s

/-- StatusValue (42_rx_framer.md R155): the status byte. -/
def rxStatusValue (b : Byte) (s : State) : State :=
  let s1 := enqueueStatus b s
  match s1.fatal with
  | some _ => s1
  | none => { s1 with sig := { s1.sig with statusWait := false }, rx := { s1.rx with state := .firstByte } }

/-- Length (42_rx_framer.md R156). -/
def rxLength (b : Byte) (s : State) : State := rxRearm { s with rx := { s.rx with len := b, state := .command } }

/-- Command (42_rx_framer.md R157). -/
def rxCommand (b : Byte) (s : State) : State :=
  rxRearm { s with rx := { s.rx with cmd := b, state := if s.rx.len = 0 then .checksumLsb else .data } }

/-- Data (42_rx_framer.md R158). -/
def rxData (b : Byte) (s : State) : State :=
  let d := s.rx.data ++ [b]
  rxRearm { s with rx := { s.rx with data := d, state := if d.length = s.rx.len.toNat then .checksumLsb else .data } }

/-- ChecksumLsb (42_rx_framer.md R159). -/
def rxChecksumLsb (b : Byte) (s : State) : State :=
  rxRearm { s with rx := { s.rx with csumLo := b, state := .checksumMsb } }

/-- ROUTE(f) (42_rx_framer.md R161): queue selection for a valid frame. -/
def route (f : Frame) (s : State) : State :=
  if s.build.isIndication f.command then
    if f.command = s.build.code .reset .ind || s.sig.readyGate then enqueueInd f s
    else
      match s.build.gateClosed with
      | .drop => s
      | .toConfirmQueue => enqueueCnf f s
  else enqueueCnf f s

/-- ARM_REPLY(r) (42_rx_framer.md R162): the one reply slot, and the TX framer's wake-up. -/
def armReply (r : Reply) (s : State) : State :=
  { s with sig := { s.sig with pendingReply := some r, txActive := true, txIe := true } }

/-- CSUM_FAIL (42_rx_framer.md R163, D5). -/
def csumFail (s : State) : State :=
  match s.build.csumFail with
  | .silentDrop => s
  | .replyNak => armReply .nak s

/-- The frame assembled in the RX framer's registers, with the checksum received (42_rx_framer.md R160). -/
def rxFrame (s : State) (msb : Byte) : Frame :=
  { start := s.rx.start, length := s.rx.len, command := s.rx.cmd, payload := s.rx.data,
    checksum := word16 s.rx.csumLo msb }

/-- ChecksumMsb (42_rx_framer.md R160): completion. A Fatal in ROUTE ends the event, and no reply is armed. -/
def rxChecksumMsb (b : Byte) (s : State) : State :=
  let f := rxFrame s b
  let s1 := { s with rx := { s.rx with state := .firstByte, tmo := s.rx.tmo.disarm } }
  if f.checksum = checksumOf s.rx.cmd s.rx.len s.rx.data then
    let s2 := route f s1
    match s2.fatal with
    | some _ => s2
    | none => armReply .ack s2
  else csumFail s1

/-- Step 2 of RX_BYTE (42_rx_framer.md R150): the byte, in the (possibly reset) state. -/
def rxDispatch (b : Byte) (s : State) : State :=
  match s.rx.state with
  | .firstByte => rxFirstByte b s
  | .statusValue => rxStatusValue b s
  | .length => rxLength b s
  | .command => rxCommand b s
  | .data => rxData b s
  | .checksumLsb => rxChecksumLsb b s
  | .checksumMsb => rxChecksumMsb b s

/-- RX_BYTE(b) (42_rx_framer.md R150). -/
def rxByte (b : Byte) (s : State) : State := rxDispatch b (rxExpire s)

/-- RX_BYTE events back to back; a Fatal ends the delivery, since RX_BYTE is then no longer enabled (60_exceptions.md R306). -/
def deliver : Bytes → State → State
  | [], s => s
  | b :: bs, s =>
    match s.fatal with
    | some _ => s
    | none => deliver bs (rxByte b s)

/-- EV01 RX_BYTE(b) (42_rx_framer.md R150): enabled whenever fatal = none. -/
def execRxByte (b : Byte) (s : State) : Out := ifLive s (.next (rxByte b s))

end Sys2Proof.Machine
end

