-- ==== Sys2Proof/Machine/Wire.lean ====
section
/-! DEFINITION. The wire objects of 30_encoding.md sections 1 and 2 as instructions: the RX_BYTE events that carry them from the
modem, back to back (30_encoding.md R114, log entry 14). -/
namespace Sys2Proof.Machine

/-- A wire object arrives: RX_BYTE of each of its bytes, in order, with no other event between them. -/
def arrive (bs : Bytes) (s : State) : Out := ifLive s (.next (deliver bs s))

/-- FRAME (30_encoding.md R90): START, LENGTH, COMMAND, the payload and the two checksum bytes as given. -/
def execFrame (stx : Stx) (command : Byte) (payload : Bytes) (lsb msb : Byte) (s : State) : Out :=
  if payload.length ≤ Config.maxPayload then
    arrive (stx.byte :: BitVec.ofNat 8 payload.length :: command :: (payload ++ [lsb, msb])) s
  else .refused .badBuffer

/-- STX_REQUEST (30_encoding.md R92, 42_rx_framer.md R153). -/
def execStxRequest (s : State) : Out := arrive [Config.stxRequest] s

/-- STX_INDICATION (30_encoding.md R92, 42_rx_framer.md R153). -/
def execStxIndication (s : State) : Out := arrive [Config.stxIndication] s

/-- ACK (30_encoding.md R93, 42_rx_framer.md R151). -/
def execAck (s : State) : Out := arrive [Config.ackByte] s

/-- NAK (30_encoding.md R93, 42_rx_framer.md R151). -/
def execNak (s : State) : Out := arrive [Config.nakByte] s

/-- STX_STATUS (30_encoding.md R94, 42_rx_framer.md R152). -/
def execStxStatus (s : State) : Out := arrive [Config.stxStatus] s

/-- STATUS_SEQUENCE (30_encoding.md R94): STX_STATUS, then the status byte. -/
def execStatusSequence (status : Byte) (s : State) : Out := arrive [Config.stxStatus, status] s

/-- DESYNC (30_encoding.md R104, 42_rx_framer.md R154). -/
def execDesync (b : Byte) (s : State) : Out := arrive [b] s

end Sys2Proof.Machine
end

