-- ==== Sys2Proof/Machine/Commands.lean ====
section
/-! DEFINITION. The command codes of 30_encoding.md R97 and R105 as instructions: a checksum-valid frame with that COMMAND byte
arrives from the modem and is routed and acknowledged (42_rx_framer.md R160-R162; log entry 16). What the engine sends under a
REQ code is the builders' (30_encoding.md R101, Driver.lean). -/
namespace Sys2Proof.Machine

/-- The wire bytes of a checksum-valid frame with this COMMAND byte arrive back to back. -/
def arriveFrame (command : Byte) (stx : Stx) (payload : Bytes) (s : State) : Out :=
  if payload.length ≤ Config.maxPayload then arrive (serialise (commandFrame command stx payload)) s
  else .refused .badBuffer

/-- RESET_REQ (30_encoding.md R97), BASE + 0: a non-indication on receive, to q_cnf. -/
def execResetReq (stx : Stx) (payload : Bytes) (s : State) : Out :=
  arriveFrame (s.build.code .reset .req) stx payload s

/-- RESET_CNF (30_encoding.md R97), BASE + 1: a confirmation, to q_cnf. -/
def execResetCnf (stx : Stx) (payload : Bytes) (s : State) : Out :=
  arriveFrame (s.build.code .reset .cnf) stx payload s

/-- RESET_IND (30_encoding.md R97), BASE + 2: an indication, to q_ind even while the ready gate is closed (42_rx_framer.md R161). -/
def execResetInd (stx : Stx) (payload : Bytes) (s : State) : Out :=
  arriveFrame (s.build.code .reset .ind) stx payload s

/-- RESET_ERR (30_encoding.md R97), BASE + 3: an error confirmation, to q_cnf. -/
def execResetErr (stx : Stx) (payload : Bytes) (s : State) : Out :=
  arriveFrame (s.build.code .reset .err) stx payload s

/-- MIB_WRITE_REQ (30_encoding.md R97), BASE + 0: a non-indication on receive, to q_cnf. -/
def execMibWriteReq (stx : Stx) (payload : Bytes) (s : State) : Out :=
  arriveFrame (s.build.code .mibWrite .req) stx payload s

/-- MIB_WRITE_CNF (30_encoding.md R97), BASE + 1: a confirmation, to q_cnf. -/
def execMibWriteCnf (stx : Stx) (payload : Bytes) (s : State) : Out :=
  arriveFrame (s.build.code .mibWrite .cnf) stx payload s

/-- MIB_WRITE_UNUSED_2 (30_encoding.md R105), unused BASE + 2: a non-indication, to q_cnf. -/
def execMibWriteUnused2 (stx : Stx) (payload : Bytes) (s : State) : Out :=
  arriveFrame (s.build.code .mibWrite .ind) stx payload s

/-- MIB_WRITE_ERR (30_encoding.md R97), BASE + 3: an error confirmation, to q_cnf. -/
def execMibWriteErr (stx : Stx) (payload : Bytes) (s : State) : Out :=
  arriveFrame (s.build.code .mibWrite .err) stx payload s

/-- MIB_ERASE_REQ (30_encoding.md R97), BASE + 0: a non-indication on receive, to q_cnf. -/
def execMibEraseReq (stx : Stx) (payload : Bytes) (s : State) : Out :=
  arriveFrame (s.build.code .mibErase .req) stx payload s

/-- MIB_ERASE_CNF (30_encoding.md R97), BASE + 1: a confirmation, to q_cnf. -/
def execMibEraseCnf (stx : Stx) (payload : Bytes) (s : State) : Out :=
  arriveFrame (s.build.code .mibErase .cnf) stx payload s

/-- MIB_ERASE_UNUSED_2 (30_encoding.md R105), unused BASE + 2: a non-indication, to q_cnf. -/
def execMibEraseUnused2 (stx : Stx) (payload : Bytes) (s : State) : Out :=
  arriveFrame (s.build.code .mibErase .ind) stx payload s

/-- MIB_ERASE_ERR (30_encoding.md R97), BASE + 3: an error confirmation, to q_cnf. -/
def execMibEraseErr (stx : Stx) (payload : Bytes) (s : State) : Out :=
  arriveFrame (s.build.code .mibErase .err) stx payload s

/-- PING_REQ (30_encoding.md R97), BASE + 0: a non-indication on receive, to q_cnf. -/
def execPingReq (stx : Stx) (payload : Bytes) (s : State) : Out :=
  arriveFrame (s.build.code .ping .req) stx payload s

/-- PING_CNF (30_encoding.md R97), BASE + 1: a confirmation, to q_cnf. -/
def execPingCnf (stx : Stx) (payload : Bytes) (s : State) : Out :=
  arriveFrame (s.build.code .ping .cnf) stx payload s

/-- PING_UNUSED_2 (30_encoding.md R105), unused BASE + 2: a non-indication, to q_cnf. -/
def execPingUnused2 (stx : Stx) (payload : Bytes) (s : State) : Out :=
  arriveFrame (s.build.code .ping .ind) stx payload s

/-- PING_ERR (30_encoding.md R97), BASE + 3: an error confirmation, to q_cnf. -/
def execPingErr (stx : Stx) (payload : Bytes) (s : State) : Out :=
  arriveFrame (s.build.code .ping .err) stx payload s

/-- PHY_REQ (30_encoding.md R97), BASE + 0: a non-indication on receive, to q_cnf. -/
def execPhyReq (stx : Stx) (payload : Bytes) (s : State) : Out :=
  arriveFrame (s.build.code .phy .req) stx payload s

/-- PHY_CNF (30_encoding.md R97), BASE + 1: a confirmation, to q_cnf. -/
def execPhyCnf (stx : Stx) (payload : Bytes) (s : State) : Out :=
  arriveFrame (s.build.code .phy .cnf) stx payload s

/-- PHY_IND (30_encoding.md R97), BASE + 2: an indication, to q_ind while the ready gate is open (42_rx_framer.md R161). -/
def execPhyInd (stx : Stx) (payload : Bytes) (s : State) : Out :=
  arriveFrame (s.build.code .phy .ind) stx payload s

/-- PHY_ERR (30_encoding.md R97), BASE + 3: an error confirmation, to q_cnf. -/
def execPhyErr (stx : Stx) (payload : Bytes) (s : State) : Out :=
  arriveFrame (s.build.code .phy .err) stx payload s

/-- DL_REQ (30_encoding.md R97), BASE + 0: a non-indication on receive, to q_cnf. -/
def execDlReq (stx : Stx) (payload : Bytes) (s : State) : Out :=
  arriveFrame (s.build.code .dl .req) stx payload s

/-- DL_CNF (30_encoding.md R97), BASE + 1: a confirmation, to q_cnf. -/
def execDlCnf (stx : Stx) (payload : Bytes) (s : State) : Out :=
  arriveFrame (s.build.code .dl .cnf) stx payload s

/-- DL_IND (30_encoding.md R97), BASE + 2: an indication, to q_ind while the ready gate is open (42_rx_framer.md R161). -/
def execDlInd (stx : Stx) (payload : Bytes) (s : State) : Out :=
  arriveFrame (s.build.code .dl .ind) stx payload s

/-- DL_ERR (30_encoding.md R97), BASE + 3: an error confirmation, to q_cnf. -/
def execDlErr (stx : Stx) (payload : Bytes) (s : State) : Out :=
  arriveFrame (s.build.code .dl .err) stx payload s

/-- COMMAND_RESERVED (30_encoding.md R105, D42): a code with no meaning to the engine is a non-indication, to q_cnf. -/
def execCommandReserved (command : Byte) (stx : Stx) (payload : Bytes) (s : State) : Out :=
  arriveFrame command stx payload s

end Sys2Proof.Machine
end

