-- ==== Sys2Proof/Machine/Driver.lean ====
section
/-! DEFINITION. The driver (44_driver.md): the frame builders OP13-OP19, DRV_RECEIVE_FRAME (OP20) and DRV_SET_READY (EV10).
A builder checks the length, then draws from the allocator, then constructs the frame. -/
namespace Sys2Proof.Machine

/-- What a builder answers (44_driver.md, opening): Ok(f, tag), Err(e), or a Fatal raised on the way. -/
inductive Built where
  | ok (f : Frame) (tag : SenderTag)
  | err (e : Error)
  | fatal (r : FatalReason)
deriving DecidableEq, Repr

/-- The steps every builder does (44_driver.md, opening; 30_encoding.md R101): the length check, the allocation draw, FRAME_NEW
with start STX_REQUEST. -/
def buildFrame (fits : Bool) (command : Byte) (p : Bytes) (tag : SenderTag) (s : State) : Built × State :=
  if fits then
    match drawAlloc s with
    | (false, s) => (.fatal .allocFail, s)
    | (true, s) =>
      match frameNew Config.stxRequest (BitVec.ofNat 8 p.length) command p with
      | some f => (.ok f tag, s)
      | none => (.fatal .frameInvariant, s)
  else (.err .errArgs, s)

/-- DRV_RESET_REQ (44_driver.md R200). -/
def buildResetReq (s : State) : Built × State := buildFrame true (s.build.code .reset .req) [] .reset s

/-- DRV_MIB_WRITE(index, buf) (44_driver.md R201): payload `[index] ++ buf`, at most 254 bytes. -/
def buildMibWrite (index : Byte) (buf : Bytes) (s : State) : Built × State :=
  buildFrame (1 + buf.length ≤ Config.maxMibWriteTotal) (s.build.code .mibWrite .req) (index :: buf) .mibWrite s

/-- DRV_MIB_ERASE(index) (44_driver.md R202). -/
def buildMibErase (index : Byte) (s : State) : Built × State :=
  buildFrame true (s.build.code .mibErase .req) [index] .mibErase s

/-- DRV_PING(buf) (44_driver.md R203): the tag carries a copy of buf. -/
def buildPing (buf : Bytes) (s : State) : Built × State :=
  buildFrame (buf.length ≤ Config.maxPingTotal) (s.build.code .ping .req) buf (.ping buf) s

/-- DRV_PHY_DATA(buf) (44_driver.md R204): payload `OPT_PHY ++ buf`; the check is on buf. -/
def buildPhyData (buf : Bytes) (s : State) : Built × State :=
  buildFrame (buf.length ≤ Config.maxPhy) (s.build.code .phy .req) (s.build.optPhy ++ buf) .phyData s

/-- DRV_DL_DATA(buf) (44_driver.md R205): payload `OPT_DL ++ buf`; the check is on buf. -/
def buildDlData (buf : Bytes) (s : State) : Built × State :=
  buildFrame (buf.length ≤ Config.maxDl) (s.build.code .dl .req) (s.build.optDl ++ buf) .dlData s

/-- DRV_DATA(buf) (44_driver.md R206): by DATA_SERVICE. -/
def buildData (buf : Bytes) (s : State) : Built × State :=
  match s.build.dataService with
  | .dl => buildDlData buf s
  | .phy => buildPhyData buf s

/-- A builder called directly: its answer is the result, a Fatal is raised. -/
def buildResult : Built × State → State
  | (.ok f tag, s) => { s with result := .built f tag }
  | (.err e, s) => { s with result := .failed e }
  | (.fatal r, s) => raise r s

/-- DRV_RECEIVE_FRAME (44_driver.md R207): Dequeue(q_ind), never blocking. -/
def receiveFrame (s : State) : Option Frame × State :=
  match dequeue s.q.ind with
  | none => (none, s)
  | some (f, rest) => (some f, { s with q := { s.q with ind := rest } })

/-- OP13 DRV_RESET_REQ (44_driver.md R200). -/
def execDrvResetReq (s : State) : Out := ifLive s (.next (buildResult (buildResetReq s)))

/-- OP14 DRV_MIB_WRITE(index, buf) (44_driver.md R201). -/
def execDrvMibWrite (index : Byte) (buf : Bytes) (s : State) : Out :=
  ifLive s (.next (buildResult (buildMibWrite index buf s)))

/-- OP15 DRV_MIB_ERASE(index) (44_driver.md R202). -/
def execDrvMibErase (index : Byte) (s : State) : Out := ifLive s (.next (buildResult (buildMibErase index s)))

/-- OP16 DRV_PING(buf) (44_driver.md R203). -/
def execDrvPing (buf : Bytes) (s : State) : Out := ifLive s (.next (buildResult (buildPing buf s)))

/-- OP17 DRV_PHY_DATA(buf) (44_driver.md R204). -/
def execDrvPhyData (buf : Bytes) (s : State) : Out := ifLive s (.next (buildResult (buildPhyData buf s)))

/-- OP18 DRV_DL_DATA(buf) (44_driver.md R205). -/
def execDrvDlData (buf : Bytes) (s : State) : Out := ifLive s (.next (buildResult (buildDlData buf s)))

/-- OP19 DRV_DATA(buf) (44_driver.md R206). -/
def execDrvData (buf : Bytes) (s : State) : Out := ifLive s (.next (buildResult (buildData buf s)))

/-- OP20 DRV_RECEIVE_FRAME called directly (44_driver.md R207). While a task event is in progress, q_ind already has its one
consumer in the middle of a call, and a second one raises Fatal(SPSC_VIOLATION) (20_memory.md R70, 60_exceptions.md R308, log
entry 12). -/
def execDrvReceiveFrame (s : State) : Out :=
  ifLive s <| .next <|
    match s.task with
    | some _ => raise .spscViolation s
    | none => { (receiveFrame s).2 with result := .received (receiveFrame s).1 }

/-- EV10 DRV_SET_READY (44_driver.md R208), enabled once, after init (70_reset_and_hazards.md R343). -/
def execDrvSetReady (s : State) : Out :=
  ifLive s <|
    if setReadyEnabled s then .next { s with sig := { s.sig with readyGate := true } } else .refused .notEnabled

end Sys2Proof.Machine
end

