-- ==== Sys2Proof/Machine/Init.lean ====
section
/-! DEFINITION. Driver init (44_driver.md R209) as its primitive steps (20_memory.md R72 (b)). -/
namespace Sys2Proof.Machine

/-- The first primitive step of a DRV_INIT event, by init_phase (44_driver.md R209); in Done it would do nothing. -/
def initStart (s : State) : State :=
  match s.init.phase with
  | .notStarted => goto (.init .lineLow) s
  | .resetLow => goto (.init .checkLow) s
  | .waitInd => goto (.init .checkPoll) s
  | .done => s

/-- One primitive step of DRV_INIT (44_driver.md R209). -/
def initStep (p : InitPoint) (s : State) : State :=
  match p with
  -- NotStarted
  | .lineLow => goto (.init .armLow) (setResetLine .low s)
  | .armLow => endTask { s with init := { phase := .resetLow, tmo := armed s Config.tResetLow } }
  -- ResetLow
  | .checkLow => if expired s s.init.tmo then goto (.init .lineHigh) s else endTask s
  | .lineHigh => goto (.init .armPoll) (setResetLine .high s)
  | .armPoll => endTask { s with init := { phase := .waitInd, tmo := armed s Config.tInitPoll } }
  -- WaitInd
  | .checkPoll => if expired s s.init.tmo then goto (.init .takeInd) s else endTask s
  | .takeInd =>
    match receiveFrame s with
    | (some f, s1) => goto (.init (if f.command = s.build.code .reset .ind then .disarm else .rearm)) s1
    | (none, s1) => goto (.init .rearm) s1
  | .disarm => endTask { s with init := { phase := .done, tmo := s.init.tmo.disarm } }
  | .rearm => endTask { s with init := { s.init with tmo := armed s Config.tInitPoll } }

end Sys2Proof.Machine
end

