-- ==== Sys2Proof/Machine/Operands.lean ====
section
/-! DEFINITION. The operand forms of the operations: a Timeout by its name, a request frame, a host buffer, and the
application payload inside a frame. -/
namespace Sys2Proof.Machine

/-- The Timeout register an operand names (40_timeout.md). -/
def getTimeoutReg (t : TimeoutId) (s : State) : Timeout :=
  match t with
  | .rx => s.rx.tmo
  | .status => s.seq.tmoStatus
  | .ack => s.seq.tmoAck
  | .cnf => s.seq.tmoCnf
  | .ldrFail => s.ldr.failTmo
  | .ldrPing => s.ldr.pingTmo
  | .init => s.init.tmo

/-- Writes the Timeout register an operand names (40_timeout.md). -/
def setTimeoutReg (t : TimeoutId) (v : Timeout) (s : State) : State :=
  match t with
  | .rx => { s with rx := { s.rx with tmo := v } }
  | .status => { s with seq := { s.seq with tmoStatus := v } }
  | .ack => { s with seq := { s.seq with tmoAck := v } }
  | .cnf => { s with seq := { s.seq with tmoCnf := v } }
  | .ldrFail => { s with ldr := { s.ldr with failTmo := v } }
  | .ldrPing => { s with ldr := { s.ldr with pingTmo := v } }
  | .init => { s with init := { s.init with tmo := v } }

/-- The Timeouts of the Leader session exist only when ROLE = Leader (10_state.md R38). -/
def timeoutExists (t : TimeoutId) (s : State) : Bool :=
  match t with
  | .ldrFail | .ldrPing => s.build.role = .leader
  | _ => true

/-- The application payload of a received frame: the bytes from IND_OFFSET on, header first (30_encoding.md R103). Empty when
the frame's payload is not longer than IND_OFFSET. -/
def appPayload (b : Build) (f : Frame) : Bytes := f.payload.drop b.indOffset.val

end Sys2Proof.Machine
end

