-- ==== Sys2Proof/Machine/Sequencer.lean ====
section
/-! DEFINITION. The sequencer (45_sequencer.md): SEQ_ENQUEUE, and SEQ_POLL as the primitive steps its pseudocode lists,
in their order (20_memory.md R72 (b)). Register writes private to the task context go with the primitive step before them (log
entry 10), and so does `raise Fatal` (log entry 26). -/
namespace Sys2Proof.Machine

/-- SEQ_ENQUEUE(f, tag) (45_sequencer.md R230). -/
def seqEnqueue (f : Frame) (tag : SenderTag) (s : State) : State :=
  if seqIdle s then { s with seq := { s.seq with tag := tag, frame := some f } } else raise .seqEnqueueBusy s

/-- Return to idle (45_sequencer.md R239). -/
def seqToIdle (s : State) : State :=
  { s with seq := { s.seq with state := .txreqLow, tag := .inactive, frame := none } }

/-- What the caller of SEQ_POLL does with its result: a direct call keeps it; the Leader in SendData (46_session.md R262) and
SendPing (R263); the Follower in Send (R272). DESIGN CHOICE (log entry 26): the raise of a fatal error goes with the primitive step
before it. -/
def seqReturn (k : Caller) (r : PollResult) (s : State) : State :=
  match k, r with
  | .direct, r => endTask { s with result := .poll r }
  | _, .wouldBlock => endTask s
  | .ldrSendData, .ready _ => endTask { s with ldr := { s.ldr with state := .dispatch } }
  | .ldrSendPing, .ready _ => goto (.ldr .armPing) s
  | .ldrSendData, .fail e =>
    if recoverableLeader e then goto (.ldr .armFail) s else raiseInTask .leaderFatalTxError s
  | .ldrSendPing, .fail e =>
    if recoverableLeader e then goto (.ldr .armFail) s else raiseInTask .leaderFatalTxError s
  | .flwSend, .ready _ => endTask { s with flw := .wait }
  | .flwSend, .fail e =>
    if recoverableFollower e then endTask { s with flw := .wait } else raiseInTask .followerFatalTxError s

/-- Every Ready or Fail result first returns the sequencer to idle (45_sequencer.md R239). -/
def seqFinish (k : Caller) (r : PollResult) (s : State) : State := seqReturn k r (seqToIdle s)

/-- The confirmation check (45_sequencer.md R238): the code first, then a ping's echo. -/
def confirmation (b : Build) (tag : SenderTag) (c : Frame) : PollResult :=
  if !expected b tag c.command then .fail .errConfirm
  else
    match tag with
    | .ping p => if c.payload = p then .ready c else .fail .errPing
    | _ => .ready c

/-- The first primitive step of each stage (45_sequencer.md R231). -/
def seqEntry : SeqState → SeqPoint
  | .txreqLow => .clearDone
  | .waitStatusFrame => .takeStatus
  | .waitTxFrameDone => .readDone
  | .waitAck => .takeAck
  | .waitCnf => .takeCnf

/-- SEQ_POLL is called (45_sequencer.md R231): fatal with an Inactive tag, else the stage's first primitive step comes next.
DESIGN CHOICE (log entry 26): the raise goes with the step before it. -/
def seqStart (k : Caller) (s : State) : State :=
  if s.seq.tag = .inactive then raiseInTask .seqPollInactive s else goto (.seq k (seqEntry s.seq.state)) s

/-- One primitive step of SEQ_POLL (45_sequencer.md R232-R238). DESIGN CHOICE (log entry 26): the raise of TX_QUEUE_FULL goes with the
Enqueue. -/
def seqStep (k : Caller) (p : SeqPoint) (s : State) : Out :=
  match p with
  -- R232 TxreqLow
  | .clearDone => .next (goto (.seq k .drain) { s with sig := { s.sig with txDone := false } })
  | .drain =>
    match dequeue s.q.status with
    | some (_, rest) => .next (goto (.seq k .drain) { s with q := { s.q with status := rest } })
    | none => .next (goto (.seq k .lineLow) s)
  | .lineLow => .next (goto (.seq k .armStatus) (setTxreq .low s))
  | .armStatus => .next (goto (.seq k .setStatusWait) { s with seq := { s.seq with tmoStatus := armed s Config.tStatus } })
  | .setStatusWait =>
    .next (seqReturn k .wouldBlock
      { s with sig := { s.sig with statusWait := true }, seq := { s.seq with state := .waitStatusFrame } })
  -- R233 WaitStatusFrame
  | .takeStatus =>
    match dequeue s.q.status with
    | some (b, rest) =>
      .next (goto (.seq k (if busy b then .busyLine else .release)) { s with q := { s.q with status := rest } })
    | none => .next (goto (.seq k .checkStatus) s)
  | .checkStatus =>
    .next (if expired s s.seq.tmoStatus then goto (.seq k .noStatusLine) s else seqReturn k .wouldBlock s)
  | .noStatusLine => .next (seqFinish k (.fail .txErrNoStatus) (setTxreq .high s))
  -- R234 status received
  | .busyLine => .next (seqFinish k (.fail .txErrBusy) (setTxreq .high s))
  | .release =>
    match s.seq.frame with
    | none => .fault .seqFrameMissing
    | some f =>
      match enqueue Config.capTx s.q.tx f with
      | none => .next (raiseInTask .txQueueFull s)
      | some q =>
        .next (goto (.seq k .enableIrq) { s with q := { s.q with tx := q }, seq := { s.seq with frame := none } })
  | .enableIrq => .next (goto (.seq k .signalActive) { s with sig := { s.sig with txIe := true } })
  | .signalActive =>
    .next (seqReturn k .wouldBlock
      { s with sig := { s.sig with txActive := true }, seq := { s.seq with state := .waitTxFrameDone } })
  -- R235 WaitTxFrameDone
  | .readDone => .next (if s.sig.txDone then goto (.seq k .armAck) s else seqReturn k .wouldBlock s)
  | .armAck => .next (goto (.seq k .setAckWait) { s with seq := { s.seq with tmoAck := armed s Config.tAck } })
  | .setAckWait =>
    .next (seqReturn k .wouldBlock
      { s with sig := { s.sig with ackWait := true }, seq := { s.seq with state := .waitAck } })
  -- R236 WaitAck
  | .takeAck =>
    match dequeue s.q.ack with
    | some (.nak, rest) => .next (seqFinish k (.fail .txErrNak) { s with q := { s.q with ack := rest } })
    | some (.ack, rest) => .next (goto (.seq k .armCnf) { s with q := { s.q with ack := rest } })
    | none => .next (goto (.seq k .checkAck) s)
  | .armCnf =>
    .next (seqReturn k .wouldBlock
      { s with seq := { s.seq with tmoCnf := armed s Config.tCnf, state := .waitCnf } })
  | .checkAck =>
    .next (if expired s s.seq.tmoAck then seqFinish k (.fail .txErrAckTmo) s else seqReturn k .wouldBlock s)
  -- R237 WaitCnf, R238 the confirmation check
  | .takeCnf =>
    match dequeue s.q.cnf with
    | some (c, rest) =>
      .next (seqFinish k (confirmation s.build s.seq.tag c) { s with q := { s.q with cnf := rest } })
    | none => .next (goto (.seq k .checkCnf) s)
  | .checkCnf =>
    .next (if expired s s.seq.tmoCnf then seqFinish k (.fail .errTimeout) s else seqReturn k .wouldBlock s)

/-- The request that SEQ_ENQUEUE stores when its operand is no well-formed request frame. DESIGN CHOICE (log entry 23): 45_sequencer.md
R230 does not state it; it is a free value, within what 10_state.md R22 and R230 say of every frame in seq_frame. -/
def unstatedRequest (n : Nat) : Frame :=
  commandFrame (Config.unstatedRequest n).1 .request ((Config.unstatedRequest n).2.take Config.maxPayload)

/-- OP11 SEQ_ENQUEUE(f, tag) (45_sequencer.md R230): refused with tag Inactive (60_exceptions.md R308), fatal when the sequencer is not
idle, whatever f is; else the tag and the frame are taken. For an f that is no well-formed request frame, the frame taken is a free
value (log entry 23). -/
def execSeqEnqueue (f : Frame) (tag : SenderTag) (s : State) : Out :=
  ifLive s <|
    if tag = .inactive then .refused .inactiveTag
    else if frameWf f && f.start = Config.stxRequest then .next (seqEnqueue f tag s)
    else if seqIdle s then
      .next (seqEnqueue (unstatedRequest s.env.unstated) tag { s with env.unstated := s.env.unstated + 1 })
    else .next (raise .seqEnqueueBusy s)

end Sys2Proof.Machine
end

