-- ==== Sys2Proof/Machine/Session.lean ====
section
/-! DEFINITION. The Leader/Follower session (46_session.md): SESSION_POLL's primitive steps outside SEQ_POLL, and the reading
of an application header. -/
namespace Sys2Proof.Machine

/-- What SEND_APP answers (46_session.md R267). -/
inductive Sent where
  | ok (s : State)
  | err (e : Error) (s : State)
  | fatal (r : FatalReason) (s : State)
deriving DecidableEq, Repr

/-- SEND_APP(app) (46_session.md R267): DRV_DATA, then SEQ_ENQUEUE. DESIGN CHOICE (log entry 26): its allocation draw and its raises go
with the primitive step before it. -/
def sendApp (app : Bytes) (s : State) : Sent :=
  match buildData app s with
  | (.err e, s) => .err e s
  | (.fatal r, s) => .fatal r s
  | (.ok f tag, s) => if seqIdle s then .ok (seqEnqueue f tag s) else .fatal .seqEnqueueBusy s

/-- INBOUND (46_session.md R266): the allocation draw, then Enqueue(q_usb_in, d) as the next primitive step.
DESIGN CHOICE (log entry 26): the draw, and the raise when it is exhausted, go with the Dequeue before them. -/
def inbound (put : TaskPoint) (s : State) : State :=
  match drawAlloc s with
  | (false, s) => raiseInTask .allocFail s
  | (true, s) => goto put s

/-! ## Leader -/

/-- Back to Dispatch, and the poll ends. -/
def ldrToDispatch (s : State) : State := endTask { s with ldr := { s.ldr with state := .dispatch } }

/-- The dispatch on ldr_state (46_session.md R260): the first primitive step of R261-R264. -/
def ldrBody (s : State) : State :=
  match s.ldr.state with
  | .dispatch => goto (.ldr .takeOut) s
  | .sendData => seqStart .ldrSendData s
  | .sendPing => seqStart .ldrSendPing s
  | .waitPing => goto (.ldr .checkPing) s

/-- SESSION_POLL, ROLE = Leader (46_session.md R260): the back-off prologue. -/
def ldrStart (s : State) : State :=
  if s.ldr.failTmo.armed then goto (.ldr .checkBackoff) s else ldrBody s

/-- Leader Dispatch, the exchange to start (46_session.md R261): a builder error arms the back-off. DESIGN CHOICE (log entry
26): the allocation draw and the raises go with the Dequeue before them. -/
def ldrSend (app : Bytes) (next : LdrState) (s : State) : State :=
  match sendApp app s with
  | .ok s => endTask { s with ldr := { s.ldr with state := next } }
  | .err _ s => goto (.ldr .armFail) s
  | .fatal r s => raiseInTask r s

/-- Leader WaitPing, the frame read (46_session.md R264), by its application payload: a Ping header is fatal, Data goes to the
host, Idle, reserved and missing headers are discarded (30_encoding.md R106). DESIGN CHOICE (log entry 26): the raise goes with the
Dequeue before it. -/
def ldrOnApp (app : Bytes) (s : State) : State :=
  match app with
  | [] => ldrToDispatch s
  | h :: d =>
    match headerOf h with
    | some .ping => raiseInTask .leaderGotPing s
    | some .data => inbound (.ldr (.putIn d)) s
    | some .idle => ldrToDispatch s
    | none => ldrToDispatch s

/-- One primitive step of the Leader outside SEQ_POLL (46_session.md R260-R264). -/
def ldrStep (p : LdrPoint) (s : State) : State :=
  match p with
  -- R260
  | .checkBackoff => if expired s s.ldr.failTmo then goto (.ldr .disarmBackoff) s else endTask s
  | .disarmBackoff => ldrBody { s with ldr := { s.ldr with failTmo := s.ldr.failTmo.disarm } }
  -- R261
  | .takeOut =>
    match dequeue s.q.usbOut with
    | some (buf, rest) => ldrSend (Config.hdrData :: buf) .sendData { s with q := { s.q with usbOut := rest } }
    | none => if s.build.twoWay then ldrSend [Config.hdrPing] .sendPing s else endTask s
  -- R261, R262, R263: the 100 ms back-off
  | .armFail => ldrToDispatch { s with ldr := { s.ldr with failTmo := armed s Config.tFail } }
  -- R263
  | .armPing => endTask { s with ldr := { s.ldr with pingTmo := armed s Config.tPing, state := .waitPing } }
  -- R264
  | .checkPing => if expired s s.ldr.pingTmo then ldrToDispatch s else goto (.ldr .takeInd) s
  | .takeInd =>
    match receiveFrame s with
    | (none, s) => endTask s
    | (some f, s) => ldrOnApp (appPayload s.build f) s
  | .putIn d => ldrToDispatch (enqueueUsbIn d s)

/-! ## Follower -/

/-- SESSION_POLL, ROLE = Follower (46_session.md R270). -/
def flwStart (s : State) : State :=
  match s.flw with
  | .wait => goto (.flw .takeInd) s
  | .send => seqStart .flwSend s

/-- Follower Wait, the frame read (46_session.md R270), by its application payload: a Ping header is answered in two-way mode and
fatal otherwise, Data goes to the host, Idle, reserved and missing headers are discarded. DESIGN CHOICE (log entry 26): the raise goes
with the Dequeue before it. -/
def flwOnApp (app : Bytes) (s : State) : State :=
  match app with
  | [] => endTask s
  | h :: d =>
    match headerOf h with
    | some .data => inbound (.flw (.putIn d)) s
    | some .ping => if s.build.twoWay then goto (.flw .takeOut) s else raiseInTask .followerPingOneWay s
    | some .idle => endTask s
    | none => endTask s

/-- The ping reply (46_session.md R271): a builder error leaves the Follower in Wait (D47). DESIGN CHOICE (log entry 26): the
allocation draw and the raises go with the Dequeue before them. -/
def flwReply (app : Bytes) (s : State) : State :=
  match sendApp app s with
  | .ok s => endTask { s with flw := .send }
  | .err _ s => endTask s
  | .fatal r s => raiseInTask r s

/-- One primitive step of the Follower outside SEQ_POLL (46_session.md R270, R271). -/
def flwStep (p : FlwPoint) (s : State) : State :=
  match p with
  | .takeInd =>
    match receiveFrame s with
    | (none, s) => endTask s
    | (some f, s) => flwOnApp (appPayload s.build f) s
  | .putIn d => endTask (enqueueUsbIn d s)
  | .takeOut =>
    match dequeue s.q.usbOut with
    | some (buf, rest) => flwReply (Config.hdrData :: buf) { s with q := { s.q with usbOut := rest } }
    | none => flwReply [Config.hdrIdle] s

/-- SESSION_POLL begins (46_session.md R260, R270), by ROLE. -/
def sessionStart (s : State) : State :=
  match s.build.role with
  | .leader => ldrStart s
  | .follower => flwStart s

end Sys2Proof.Machine
end

