-- ==== Sys2Proof/Machine/Task.lean ====
section
/-! DEFINITION. Task events as sequences of primitive steps (20_memory.md R72 (b), 60_exceptions.md R315), and the instructions
SESSION_POLL, DRV_INIT and SEQ_POLL that run them. -/
namespace Sys2Proof.Machine

/-- One primitive step of the task event in progress. -/
def taskStep (p : TaskPoint) (s : State) : Out :=
  match p with
  | .init p => .next (initStep p s)
  | .seq k p => seqStep k p s
  | .ldr p => .next (ldrStep p s)
  | .flw p => .next (flwStep p s)

/-- At most `n` primitive steps of the task event in progress, ending with it. -/
def runTask : Nat → State → Out
  | 0, s => .next s
  | n + 1, s =>
    match s.task with
    | none => .next s
    | some p =>
      match taskStep p s with
      | .next s' => runTask n s'
      | .fault r => .fault r
      | .refused r => .refused r

/-- Enough primitive steps for any task event to end: the drain of q_status takes one for each byte, the rest of the longest
event fewer than sixteen. -/
def taskFuel (s : State) : Nat := s.q.status.length + 16

/-- The task context gets the processor: the task event runs until it ends, or until the environment's preemption schedule
brings interrupt events in (log entry 9). It then stands at its next primitive step, and the next event of its kind resumes
it (60_exceptions.md R315). -/
def runPreemptible (s : State) : Out :=
  match s.env.preempt with
  | [] => runTask (taskFuel s) s
  | n :: rest => runTask (min n (taskFuel s)) { s with env := { s.env with preempt := rest } }

/-- EV05 SESSION_POLL (46_session.md R260, R270; 70_reset_and_hazards.md R343): begins when no task event is in progress, resumes
when its own is. -/
def execSessionPoll (s : State) : Out :=
  ifLive s <|
    match s.task with
    | some (.init _) => .refused .notEnabled
    | some _ => runPreemptible s
    | none => if sessionEnabled s then runPreemptible (sessionStart s) else .refused .notEnabled

/-- EV06 DRV_INIT (44_driver.md R209, R212): begins when no task event is in progress, resumes when its own is. -/
def execDrvInit (s : State) : Out :=
  ifLive s <|
    match s.task with
    | some (.init _) => runPreemptible s
    | some _ => .refused .notEnabled
    | none => if initEnabled s then runPreemptible (initStart s) else .refused .notEnabled

/-- OP12 SEQ_POLL called directly (45_sequencer.md R231): one atomic step (95_test_vectors.md section 0), its result kept. While
a task event is in progress it would be a second consumer of the sequencer's queues and raises Fatal(SPSC_VIOLATION)
(20_memory.md R70, 60_exceptions.md R308, log entry 12). -/
def execSeqPoll (s : State) : Out :=
  ifLive s <|
    match s.task with
    | some _ => .next (raise .spscViolation s)
    | none => runTask (taskFuel s) (seqStart .direct s)

end Sys2Proof.Machine
end

