-- ==== Sys2Proof/Machine/Headers.lean ====
section
/-! DEFINITION. The application headers of 30_encoding.md R99 and R106 as instructions: the session reads an application payload
that begins so (46_session.md R264, R270; log entry 15). -/
namespace Sys2Proof.Machine

/-- The session reads headers in WaitPing (Leader, 46_session.md R264) and in Wait (Follower, R270), when it may step and no task
event is in progress (70_reset_and_hazards.md R343). -/
def readsHeaders (s : State) : Bool :=
  sessionEnabled s && s.task.isNone &&
    match s.build.role with
    | .leader => s.ldr.state = .waitPing
    | .follower => s.flw = .wait

/-- The session has read a frame with this application payload (46_session.md R264, R270). -/
def onApp (app : Bytes) (s : State) : State :=
  match s.build.role with
  | .leader => ldrOnApp app s
  | .follower => flwOnApp app s

/-- The session reads an application payload, as one atomic step: the header's arm of R264 or R270 and what it calls. -/
def readApp (app : Bytes) (s : State) : Out :=
  ifLive s <|
    if !readsHeaders s then .refused .notEnabled
    else if s.build.indOffset.val + app.length ≤ Config.maxPayload then runTask (taskFuel s) (onApp app s)
    else .refused .badBuffer

/-- HDR_IDLE (30_encoding.md R99): "nothing to send"; discarded. -/
def execHdrIdle (data : Bytes) (s : State) : Out := readApp (Config.hdrIdle :: data) s

/-- HDR_DATA (30_encoding.md R99): a real payload follows; its data go to the host (46_session.md R266). -/
def execHdrData (data : Bytes) (s : State) : Out := readApp (Config.hdrData :: data) s

/-- HDR_PING (30_encoding.md R99): a keepalive probe; fatal at a Leader (46_session.md R264) and at a one-way Follower (R270),
answered by a two-way Follower (R271). -/
def execHdrPing (data : Bytes) (s : State) : Out := readApp (Config.hdrPing :: data) s

/-- HDR_RESERVED (30_encoding.md R106): a header 0x03..0xFF, or no header byte; discarded. A header byte that is not reserved has
its own instruction. -/
def execHdrReserved (header : Option Byte) (data : Bytes) (s : State) : Out :=
  match header with
  | none => readApp [] s
  | some h => readApp (h :: data) s

end Sys2Proof.Machine
end

