-- ==== Sys2Proof/Machine/HostSide.lean ====
section
/-! DEFINITION. The USB host side (46_session.md R280, R281): HOST_OUT_PUSH and HOST_IN_POP. -/
namespace Sys2Proof.Machine

/-- EV07 HOST_OUT_PUSH(buf) (46_session.md R280): 1 to 255 bytes; a full queue drops the buffer. -/
def execHostOutPush (buf : Bytes) (s : State) : Out :=
  ifLive s <|
    if 1 ≤ buf.length && buf.length ≤ Config.maxPayload then .next (enqueueUsbOut buf s) else .refused .badBuffer

/-- EV08 HOST_IN_POP (46_session.md R281): "the value returned is the event's output". -/
def execHostInPop (s : State) : Out :=
  ifLive s <| .next <|
    match dequeue s.q.usbIn with
    | none => { s with result := .popped none }
    | some (b, rest) => { s with q := { s.q with usbIn := rest }, result := .popped (some b) }

end Sys2Proof.Machine
end

