-- ==== Sys2Proof/Machine/System.lean ====
section
/-! DEFINITION. The clock and reset: CLOCK_ADVANCE (60_exceptions.md R322) and RESET (70_reset_and_hazards.md R340). -/
namespace Sys2Proof.Machine

/-- EV04 CLOCK_ADVANCE(n), n ≥ 1 (60_exceptions.md R322). -/
def execClockAdvance (n : Word32) (s : State) : Out :=
  ifLive s (if n = 0 then .refused .zeroAdvance else .next { s with clock := s.clock + n })

/-- EV09 RESET (70_reset_and_hazards.md R340): enabled in every state, the fatal one included; it ends a task event in progress
(log entry 18). -/
def execReset (s : State) : Out := .next (resetEngine s)

end Sys2Proof.Machine
end

