-- ==== Sys2Proof/Machine/Timeouts.lean ====
section
/-! DEFINITION. The Timeout operations OP25-OP27 (40_timeout.md). -/
namespace Sys2Proof.Machine

/-- OP25 TIMEOUT_SET(t, ms) (40_timeout.md R121). -/
def execTimeoutSet (t : TimeoutId) (ms : Word16) (s : State) : Out :=
  ifLive s <|
    if timeoutExists t s then .next (setTimeoutReg t (armed s ms.toNat) s) else .refused .absentTimeout

/-- OP26 TIMEOUT_EXPIRED(t) (40_timeout.md R122). -/
def execTimeoutExpired (t : TimeoutId) (s : State) : Out :=
  ifLive s <|
    if timeoutExists t s then .next { s with result := .flag (expired s (getTimeoutReg t s)) }
    else .refused .absentTimeout

/-- OP27 TIMEOUT_DISARM(t) (40_timeout.md R123). -/
def execTimeoutDisarm (t : TimeoutId) (s : State) : Out :=
  ifLive s <|
    if timeoutExists t s then .next (setTimeoutReg t (getTimeoutReg t s).disarm s) else .refused .absentTimeout

end Sys2Proof.Machine
end

