-- ==== Sys2Proof/Machine/Tx.lean ====
section
/-! DEFINITION. The TX framer (43_tx_framer.md): TX_READY, one definition per transmit state, and UART_SHIFT. -/
namespace Sys2Proof.Machine

/-- A pending reply goes first (43_tx_framer.md R181). -/
def txReply (r : Reply) (s : State) : State :=
  let s1 := wireTx r.byte s
  { s1 with sig := { s1.sig with pendingReply := none } }

/-- The START byte of a frame (43_tx_framer.md R182). -/
def txStart (f : Frame) (s : State) : State :=
  let s1 := wireTx f.start s
  { s1 with tx := { state := .sendLength, frame := some f, idx := 0 } }

/-- SendStx (43_tx_framer.md R182): take the next frame and send its START byte, or go idle. -/
def txSendStx (s : State) : State :=
  match s.tx.frame with
  | some f => txStart f s
  | none =>
    match dequeue s.q.tx with
    | none => { s with sig := { s.sig with txIe := false, txActive := false } }
    | some (f, rest) => txStart f { s with q := { s.q with tx := rest } }

/-- SendLength (43_tx_framer.md R183): send LENGTH and release the transmit-request line. -/
def txSendLength (f : Frame) (s : State) : State :=
  let s1 := setTxreq .high (wireTx f.length s)
  { s1 with tx := { s1.tx with state := .sendCommand } }

/-- SendCommand (43_tx_framer.md R184). -/
def txSendCommand (f : Frame) (s : State) : State :=
  let s1 := wireTx f.command s
  { s1 with tx := { s1.tx with state := if f.length = 0 then .sendChecksumLsb else .sendData } }

/-- SendData (43_tx_framer.md R185): the payload byte at tx_idx. -/
def txSendData (f : Frame) (s : State) : Out :=
  match f.payload[s.tx.idx]? with
  | none => .fault .txIndexOut
  | some b =>
    let s1 := wireTx b s
    let i := s.tx.idx + 1
    .next { s1 with tx := { s1.tx with idx := i, state := if i = f.length.toNat then .sendChecksumLsb else .sendData } }

/-- SendChecksumLsb (43_tx_framer.md R186): the stored checksum's low byte. -/
def txSendChecksumLsb (f : Frame) (s : State) : State :=
  let s1 := wireTx (lowByte f.checksum) s
  { s1 with tx := { s1.tx with state := .sendChecksumMsb } }

/-- SendChecksumMsb (43_tx_framer.md R187): the stored checksum's high byte. -/
def txSendChecksumMsb (f : Frame) (s : State) : State :=
  let s1 := wireTx (highByte f.checksum) s
  { s1 with tx := { s1.tx with state := .txDone } }

/-- TxDone (43_tx_framer.md R188): no byte; the frame is finished. -/
def txFinish (s : State) : State :=
  { s with sig := { s.sig with txIe := false, txActive := false, txDone := true },
           tx := { state := .sendStx, frame := none, idx := 0 } }

/-- The states past SendStx that send a byte of tx_frame. -/
def withTxFrame (s : State) (k : Frame → Out) : Out :=
  match s.tx.frame with
  | some f => k f
  | none => .fault .txFrameMissing

/-- TX_READY (43_tx_framer.md R180), once it is enabled. -/
def txReady (s : State) : Out :=
  if !s.sig.txActive then .next s
  else
    match s.sig.pendingReply with
    | some r => .next (txReply r s)
    | none =>
      match s.tx.state with
      | .sendStx => .next (txSendStx s)
      | .sendLength => withTxFrame s fun f => .next (txSendLength f s)
      | .sendCommand => withTxFrame s fun f => .next (txSendCommand f s)
      | .sendData => withTxFrame s fun f => txSendData f s
      | .sendChecksumLsb => withTxFrame s fun f => .next (txSendChecksumLsb f s)
      | .sendChecksumMsb => withTxFrame s fun f => .next (txSendChecksumMsb f s)
      | .txDone => .next (txFinish s)

/-- EV02 TX_READY (43_tx_framer.md R180): enabled iff fatal = none, tx_ie and uart_thr_empty. -/
def execTxReady (s : State) : Out :=
  ifLive s (if txReadyEnabled s then txReady s else .refused .notEnabled)

/-- EV03 UART_SHIFT (43_tx_framer.md R191): enabled iff uart_thr_empty = false. -/
def execUartShift (s : State) : Out :=
  ifLive s (if s.uart.thrEmpty then .refused .notEnabled else .next { s with uart := { s.uart with thrEmpty := true } })

end Sys2Proof.Machine
end

