-- ==== Sys2Proof/Machine/Dispatch.lean ====
section
/-! DEFINITION. exec: one arm per constructor of Instr, each one call of its meaning. -/
namespace Sys2Proof.Machine

/-- The meaning of each instruction. -/
def exec (i : Instr) (s : State) : Host.Outcome State Fault Refusal :=
  match i with
  | .rxByte b => Sys2Proof.Machine.execRxByte b s
  | .txReady => Sys2Proof.Machine.execTxReady s
  | .uartShift => Sys2Proof.Machine.execUartShift s
  | .clockAdvance n => Sys2Proof.Machine.execClockAdvance n s
  | .sessionPoll => Sys2Proof.Machine.execSessionPoll s
  | .drvInit => Sys2Proof.Machine.execDrvInit s
  | .hostOutPush buf => Sys2Proof.Machine.execHostOutPush buf s
  | .hostInPop => Sys2Proof.Machine.execHostInPop s
  | .reset => Sys2Proof.Machine.execReset s
  | .drvSetReady => Sys2Proof.Machine.execDrvSetReady s
  | .seqEnqueue f tag => Sys2Proof.Machine.execSeqEnqueue f tag s
  | .seqPoll => Sys2Proof.Machine.execSeqPoll s
  | .drvResetReq => Sys2Proof.Machine.execDrvResetReq s
  | .drvMibWrite index buf => Sys2Proof.Machine.execDrvMibWrite index buf s
  | .drvMibErase index => Sys2Proof.Machine.execDrvMibErase index s
  | .drvPing buf => Sys2Proof.Machine.execDrvPing buf s
  | .drvPhyData buf => Sys2Proof.Machine.execDrvPhyData buf s
  | .drvDlData buf => Sys2Proof.Machine.execDrvDlData buf s
  | .drvData buf => Sys2Proof.Machine.execDrvData buf s
  | .drvReceiveFrame => Sys2Proof.Machine.execDrvReceiveFrame s
  | .checksum command length payload => Sys2Proof.Machine.execChecksum command length payload s
  | .frameNew start length command payload => Sys2Proof.Machine.execFrameNew start length command payload s
  | .frameChecksum f => Sys2Proof.Machine.execFrameChecksum f s
  | .frameSerialise f => Sys2Proof.Machine.execFrameSerialise f s
  | .timeoutSet t ms => Sys2Proof.Machine.execTimeoutSet t ms s
  | .timeoutExpired t => Sys2Proof.Machine.execTimeoutExpired t s
  | .timeoutDisarm t => Sys2Proof.Machine.execTimeoutDisarm t s
  | .frame stx command payload lsb msb => Sys2Proof.Machine.execFrame stx command payload lsb msb s
  | .stxRequest => Sys2Proof.Machine.execStxRequest s
  | .stxIndication => Sys2Proof.Machine.execStxIndication s
  | .ack => Sys2Proof.Machine.execAck s
  | .nak => Sys2Proof.Machine.execNak s
  | .stxStatus => Sys2Proof.Machine.execStxStatus s
  | .statusSequence status => Sys2Proof.Machine.execStatusSequence status s
  | .desync b => Sys2Proof.Machine.execDesync b s
  | .hdrIdle data => Sys2Proof.Machine.execHdrIdle data s
  | .hdrData data => Sys2Proof.Machine.execHdrData data s
  | .hdrPing data => Sys2Proof.Machine.execHdrPing data s
  | .hdrReserved header data => Sys2Proof.Machine.execHdrReserved header data s
  | .resetReq stx payload => Sys2Proof.Machine.execResetReq stx payload s
  | .resetCnf stx payload => Sys2Proof.Machine.execResetCnf stx payload s
  | .resetInd stx payload => Sys2Proof.Machine.execResetInd stx payload s
  | .resetErr stx payload => Sys2Proof.Machine.execResetErr stx payload s
  | .mibWriteReq stx payload => Sys2Proof.Machine.execMibWriteReq stx payload s
  | .mibWriteCnf stx payload => Sys2Proof.Machine.execMibWriteCnf stx payload s
  | .mibWriteUnused2 stx payload => Sys2Proof.Machine.execMibWriteUnused2 stx payload s
  | .mibWriteErr stx payload => Sys2Proof.Machine.execMibWriteErr stx payload s
  | .mibEraseReq stx payload => Sys2Proof.Machine.execMibEraseReq stx payload s
  | .mibEraseCnf stx payload => Sys2Proof.Machine.execMibEraseCnf stx payload s
  | .mibEraseUnused2 stx payload => Sys2Proof.Machine.execMibEraseUnused2 stx payload s
  | .mibEraseErr stx payload => Sys2Proof.Machine.execMibEraseErr stx payload s
  | .pingReq stx payload => Sys2Proof.Machine.execPingReq stx payload s
  | .pingCnf stx payload => Sys2Proof.Machine.execPingCnf stx payload s
  | .pingUnused2 stx payload => Sys2Proof.Machine.execPingUnused2 stx payload s
  | .pingErr stx payload => Sys2Proof.Machine.execPingErr stx payload s
  | .phyReq stx payload => Sys2Proof.Machine.execPhyReq stx payload s
  | .phyCnf stx payload => Sys2Proof.Machine.execPhyCnf stx payload s
  | .phyInd stx payload => Sys2Proof.Machine.execPhyInd stx payload s
  | .phyErr stx payload => Sys2Proof.Machine.execPhyErr stx payload s
  | .dlReq stx payload => Sys2Proof.Machine.execDlReq stx payload s
  | .dlCnf stx payload => Sys2Proof.Machine.execDlCnf stx payload s
  | .dlInd stx payload => Sys2Proof.Machine.execDlInd stx payload s
  | .dlErr stx payload => Sys2Proof.Machine.execDlErr stx payload s
  | .commandReserved code stx payload => Sys2Proof.Machine.execCommandReserved code stx payload s

end Sys2Proof.Machine
end

