-- ==== Sys2Proof/Machine/Fetch.lean ====
section
/-! DEFINITION. Where step takes its next instruction from: the first slot of the environment's trace (log entry 1). The engine
itself fetches no instructions (20_memory.md R79). -/
namespace Sys2Proof.Machine

/-- What the next slot of the trace gives. -/
inductive Fetched where
  /-- Nothing is scheduled. -/
  | idle
  /-- An instruction, and the state with its slot taken off the trace. -/
  | instr (i : Instr) (s : State)
  /-- The slot encodes no instruction. -/
  | bad (r : Reject)
deriving DecidableEq, Repr

/-- The next instruction of the trace, under the state's build. -/
def fetch (s : State) : Fetched :=
  match s.env.trace with
  | [] => .idle
  | slot :: rest =>
    match decode s.build slot with
    | .ok (i, _) => .instr i { s with env := { s.env with trace := rest } }
    | .error r => .bad r

/-- Schedules a slot to be the next. -/
def schedule (slot : Slot) (s : State) : State := { s with env := { s.env with trace := slot :: s.env.trace } }

end Sys2Proof.Machine
end

