-- ==== Sys2Proof/Machine/Step.lean ====
section
/-! DEFINITION. One step of the machine: the next scheduled instruction runs (60_exceptions.md R312, 20_memory.md R73). -/
namespace Sys2Proof.Machine

/-- One step: the next instruction of the trace runs; when nothing is scheduled, no event occurs and the state stays (log entry
1). -/
def step (s : State) : Out :=
  match fetch s with
  | .idle => .next s
  | .instr i s' => exec i s'
  | .bad r => .refused (.undecodable r)

/-- The state with a word of spec/opcode_table.json scheduled as the next instruction. -/
def State.withFetchWord (s : State) (nbits w : Nat) : State := schedule (tableSlot nbits w) s

end Sys2Proof.Machine
end

