-- ==== Sys2Proof/WellFormed.lean ====
section
/-! DEFINITION. When a build and an instruction are well-formed: the bounds of 00_scope.md R8 and R9, the distinct codes of
30_encoding.md R96, and the operand bounds each rule gives. -/
namespace Sys2Proof

/-- The twenty-one command codes of a build (30_encoding.md R97). -/
def Build.codes (b : Build) : List Byte := tableCodes.map fun p => b.code p.1 p.2

/-- A build the spec allows: OPT_DL at most 13 bytes, OPT_PHY at most 5 (00_scope.md R8), and "all twenty-one codes ...
distinct" (30_encoding.md R96). IND_OFFSET's bound is its type's. -/
def Build.wf (b : Build) : Bool :=
  b.optDl.length ≤ 13 && b.optPhy.length ≤ 5 && decide b.codes.Nodup

/-- A byte string that a frame's payload can hold (00_scope.md R9). -/
def Bytes.fits (p : Bytes) : Bool := p.length ≤ Config.maxPayload

/-- The operand bounds of a host buffer (46_session.md R280, D43). -/
def Bytes.pushable (p : Bytes) : Bool := 1 ≤ p.length && p.length ≤ Config.maxPayload

/-- The tag's payload fits a frame (10_state.md R23). -/
def SenderTag.fits : SenderTag → Bool
  | .ping p => Bytes.fits p
  | _ => true

/-- An instruction whose operands are ones its rule and its encoding allow, under a build. -/
def Instr.wf (b : Build) : Instr → Bool
  | .rxByte _ | .txReady | .uartShift | .sessionPoll | .drvInit | .hostInPop | .reset | .drvSetReady => true
  | .clockAdvance n => n ≠ 0
  | .hostOutPush buf => Bytes.pushable buf
  | .seqEnqueue f tag => Bytes.fits f.payload && tag.fits && tag ≠ .inactive
  | .seqPoll | .drvResetReq | .drvReceiveFrame => true
  | .drvMibWrite _ buf => Bytes.fits buf
  | .drvMibErase _ => true
  | .drvPing buf | .drvPhyData buf | .drvDlData buf | .drvData buf => Bytes.fits buf
  | .checksum _ _ p => Bytes.fits p
  | .frameNew st l _ p => Bytes.fits p && l.toNat = p.length && (stxOf st).isSome
  | .frameChecksum f | .frameSerialise f => Bytes.fits f.payload
  | .timeoutSet t _ | .timeoutExpired t | .timeoutDisarm t => b.role = .leader || (t ≠ .ldrFail && t ≠ .ldrPing)
  | .frame _ _ p _ _ => Bytes.fits p
  | .stxRequest | .stxIndication | .ack | .nak | .stxStatus | .statusSequence _ => true
  | .desync x => classifyFirst x = .desync
  | .hdrIdle d | .hdrData d | .hdrPing d => Bytes.fits (List.replicate (b.indOffset.val + 1) 0 ++ d)
  | .hdrReserved (some h) d => (headerOf h).isNone && Bytes.fits (List.replicate (b.indOffset.val + 1) 0 ++ d)
  | .hdrReserved none d => d = []
  | .resetReq _ p | .resetCnf _ p | .resetInd _ p | .resetErr _ p => Bytes.fits p
  | .mibWriteReq _ p | .mibWriteCnf _ p | .mibWriteErr _ p => Bytes.fits p
  | .mibEraseReq _ p | .mibEraseCnf _ p | .mibEraseErr _ p => Bytes.fits p
  | .pingReq _ p | .pingCnf _ p | .pingErr _ p => Bytes.fits p
  | .mibWriteUnused2 _ p => Bytes.fits p && !(b.codes.contains (b.code .mibWrite .ind))
  | .mibEraseUnused2 _ p => Bytes.fits p && !(b.codes.contains (b.code .mibErase .ind))
  | .pingUnused2 _ p => Bytes.fits p && !(b.codes.contains (b.code .ping .ind))
  | .phyReq _ p | .phyCnf _ p | .phyInd _ p | .phyErr _ p => Bytes.fits p
  | .dlReq _ p | .dlCnf _ p | .dlInd _ p | .dlErr _ p => Bytes.fits p
  | .commandReserved c _ p => Bytes.fits p && (b.findCode c).isNone

end Sys2Proof
end

