-- ==== Sys2Proof/Safety.lean ====
section
/-! DEFINITION. What counts as a safe state, in the terms the statements use: the invariants of 10_state.md R22, R36 and R46, of
46_session.md R268 and R273, and the bounds of 70_reset_and_hazards.md R352 and R363. Where the spec states an invariant at
event boundaries, the definitions here also say what holds while a task event is in progress (20_memory.md R72 (b)). -/
namespace Sys2Proof.Machine

/-! ## Queues and frames -/

/-- Every queue's length is at most its capacity (20_memory.md R65, 10_state.md R36). -/
def QueuesBounded (q : Queues) : Prop :=
  q.ind.length ≤ Config.capInd ∧ q.cnf.length ≤ Config.capCnf ∧ q.status.length ≤ Config.capStatus ∧
  q.ack.length ≤ Config.capAck ∧ q.tx.length ≤ Config.capTx ∧ q.usbOut.length ≤ Config.capUsbOut ∧
  q.usbIn.length ≤ Config.capUsbIn

/-- The frames the engine holds: in its queues, in the TX framer and in the sequencer. -/
def heldFrames (s : State) : List Frame :=
  s.q.ind ++ s.q.cnf ++ s.q.tx ++ s.tx.frame.toList ++ s.seq.frame.toList

/-- Every frame the engine holds is well-formed (10_state.md R22). -/
def FramesWellFormed (s : State) : Prop := ∀ f ∈ heldFrames s, frameWf f = true

/-- The user data a task event in progress is about to hand to the host. -/
def pendingInbound : Option TaskPoint → List Bytes
  | some (.ldr (.putIn d)) => [d]
  | some (.flw (.putIn d)) => [d]
  | _ => []

/-- The buffers' lengths (10_state.md R36): 1..255 in q_usb_out, at most 255 in q_usb_in and on the way there. -/
def BuffersBounded (s : State) : Prop :=
  (∀ b ∈ s.q.usbOut, 1 ≤ b.length ∧ b.length ≤ Config.maxPayload) ∧
  (∀ b ∈ s.q.usbIn ++ pendingInbound s.task, b.length ≤ Config.maxPayload)

/-! ## Framers -/

/-- The RX framer's registers fit its state (42_rx_framer.md R153-R160): past the start byte it holds a start byte of a frame, and
the payload collected so far is as long as the state says. -/
def RxCoherent (r : RxRegs) : Prop :=
  match r.state with
  | .firstByte | .statusValue => True
  | .length | .command => (stxOf r.start).isSome ∧ r.data = []
  | .data => (stxOf r.start).isSome ∧ r.data.length < r.len.toNat
  | .checksumLsb | .checksumMsb => (stxOf r.start).isSome ∧ r.data.length = r.len.toNat

/-- The TX framer's registers fit its state (10_state.md R46 (d), 43_tx_framer.md R182-R188). -/
def TxCoherent (t : TxRegs) : Prop :=
  match t.state with
  | .sendStx => t.frame = none
  | .sendLength | .sendCommand => t.frame.isSome ∧ t.idx = 0
  | .sendData => ∃ f, t.frame = some f ∧ t.idx < f.payload.length
  | .sendChecksumLsb | .sendChecksumMsb | .txDone => t.frame.isSome

/-! ## Sequencer -/

/-- The stage a primitive step of SEQ_POLL belongs to (45_sequencer.md R231). -/
def stageOf : SeqPoint → SeqState
  | .clearDone | .drain | .lineLow | .armStatus | .setStatusWait => .txreqLow
  | .takeStatus | .busyLine | .release | .enableIrq | .signalActive | .checkStatus | .noStatusLine => .waitStatusFrame
  | .readDone | .armAck | .setAckWait => .waitTxFrameDone
  | .takeAck | .armCnf | .checkAck => .waitAck
  | .takeCnf | .checkCnf => .waitCnf

/-- A poll that has released its frame to q_tx and not yet signalled it (between the primitive steps of 45_sequencer.md R234). -/
def justReleased : Option TaskPoint → Bool
  | some (.seq _ .enableIrq) | some (.seq _ .signalActive) => true
  | _ => false

/-- 10_state.md R46 (b) and (c), with what a poll in progress adds: an inactive tag means idle with no frame; an active request
holds its frame exactly until it is released to q_tx; a poll in progress stands in its own stage. -/
def SeqCoherent (s : State) : Prop :=
  (s.seq.tag = .inactive → s.seq.state = .txreqLow ∧ s.seq.frame = none) ∧
  (s.seq.tag ≠ .inactive →
    (s.seq.frame.isSome = true ↔
      s.seq.state = .txreqLow ∨ (s.seq.state = .waitStatusFrame ∧ justReleased s.task = false))) ∧
  (∀ k p, s.task = some (.seq k p) → s.seq.tag ≠ .inactive ∧ s.seq.state = stageOf p)

/-! ## The whole state -/

/-- The state is well-formed: bounded queues, well-formed frames, registers that fit their states. -/
def WellFormedState (s : State) : Prop :=
  QueuesBounded s.q ∧ FramesWellFormed s ∧ BuffersBounded s ∧ RxCoherent s.rx ∧ TxCoherent s.tx ∧ SeqCoherent s

/-! ## Signals -/

/-- 10_state.md R46 (a), at the granularity of primitive steps: tx_ie implies tx_active, but for a poll that has set the first and is
about to set the second. DESIGN CHOICE (log entry 20): the spec's texts disagree on that point, and the model follows R234 and R72. -/
def IrqImpliesActive (s : State) : Prop :=
  s.sig.txIe = true → s.sig.txActive = true ∨ ∃ k, s.task = some (.seq k .signalActive)

/-- 10_state.md R46 (e) and (f): the inter-character timer is armed exactly while a frame is being received. -/
def TimerArmedInFrames (s : State) : Prop :=
  s.rx.tmo.armed = true ↔ s.rx.state ≠ .firstByte ∧ s.rx.state ≠ .statusValue

/-! ## Session -/

/-- 46_session.md R268 and R273, with what a task event in progress adds: with no task event in progress the session sends exactly
while the sequencer is busy; in between, each point belongs to its own state of the session. -/
def SessionCoherent (s : State) : Prop :=
  s.fatal = none →
  match s.build.role, s.task with
  | .leader, some (.ldr .armFail) => s.seq.tag = .inactive
  | .leader, some (.ldr .armPing) => s.seq.tag = .inactive
  | .leader, some (.ldr .takeOut) => s.ldr.state = .dispatch ∧ s.seq.tag = .inactive
  | .leader, some (.ldr .checkPing) => s.ldr.state = .waitPing ∧ s.seq.tag = .inactive
  | .leader, some (.ldr .takeInd) => s.ldr.state = .waitPing ∧ s.seq.tag = .inactive
  | .leader, some (.ldr (.putIn _)) => s.ldr.state = .waitPing ∧ s.seq.tag = .inactive
  | .leader, some (.seq .ldrSendData _) => s.ldr.state = .sendData
  | .leader, some (.seq .ldrSendPing _) => s.ldr.state = .sendPing
  | .leader, some (.seq _ _) => False
  | .leader, some (.flw _) => False
  | .leader, _ => (s.ldr.state = .sendData ∨ s.ldr.state = .sendPing) ↔ s.seq.tag ≠ .inactive
  | .follower, some (.flw _) => s.flw = .wait ∧ s.seq.tag = .inactive
  | .follower, some (.seq .flwSend _) => s.flw = .send
  | .follower, some (.seq _ _) => False
  | .follower, some (.ldr _) => False
  | .follower, _ => s.flw = .send ↔ s.seq.tag ≠ .inactive

/-- The instructions that are no direct call of the sequencer: the session alone calls it (45_sequencer.md R231). -/
def noDirectSeqCall : Instr → Bool
  | .seqEnqueue _ _ | .seqPoll => false
  | _ => true

/-! ## Bounds on q_status, q_ack and q_tx -/

/-- Status bytes queued, and one more while one is awaited (70_reset_and_hazards.md R363). -/
def statusLoad (s : State) : Nat := s.q.status.length + s.sig.statusWait.toNat

/-- A poll in TxreqLow past its Drain (45_sequencer.md R232). -/
def pastDrain : Option TaskPoint → Bool
  | some (.seq _ .lineLow) | some (.seq _ .armStatus) | some (.seq _ .setStatusWait) => true
  | _ => false

/-- The bound argument of 70_reset_and_hazards.md R363: at most two status bytes are ever queued or awaited. -/
def StatusBounded (s : State) : Prop :=
  statusLoad s ≤ 2 ∧ (pastDrain s.task = true → statusLoad s ≤ 1) ∧
  (s.rx.state = .statusValue → s.sig.statusWait = true)

/-- ACK/NAK bytes queued, and one more while one is awaited (70_reset_and_hazards.md R352). -/
def ackLoad (s : State) : Nat := s.q.ack.length + s.sig.ackWait.toNat

/-- A poll in WaitAck past its Dequeue (45_sequencer.md R236). -/
def pastTakeAck : Option TaskPoint → Bool
  | some (.seq _ .armCnf) | some (.seq _ .checkAck) => true
  | _ => false

/-- The bound argument of 70_reset_and_hazards.md R352: at most one ack/nak byte is queued or awaited outside WaitAck, at most two
in it. -/
def AckBounded (s : State) : Prop :=
  ackLoad s ≤ 2 ∧ (s.seq.state ≠ .waitAck ∨ pastTakeAck s.task = true → ackLoad s ≤ 1)

/-- Request frames on their way out: in q_tx and in the TX framer. -/
def framesInFlight (s : State) : Nat := s.q.tx.length + s.tx.frame.isSome.toNat

/-- A poll in TxreqLow past its clearing of tx_done (45_sequencer.md R232). -/
def pastClearDone : Option TaskPoint → Bool
  | some (.seq _ .drain) | some (.seq _ .lineLow) | some (.seq _ .armStatus) | some (.seq _ .setStatusWait) => true
  | _ => false

/-- A poll in WaitTxFrameDone that has seen tx_done (45_sequencer.md R235). -/
def pastReadDone : Option TaskPoint → Bool
  | some (.seq _ .armAck) | some (.seq _ .setAckWait) => true
  | _ => false

/-- 45_sequencer.md R241, and the reason R234 gives for TX_QUEUE_FULL to be unreachable: at most one request frame is in flight, only
while the sequencer has released one and not yet seen it sent; and tx_done is down from TxreqLow until that frame is sent. -/
def OneFrameInFlight (s : State) : Prop :=
  framesInFlight s ≤ 1 ∧
  (framesInFlight s = 1 → s.sig.txDone = false ∧
    ((s.seq.state = .waitTxFrameDone ∧ pastReadDone s.task = false) ∨ justReleased s.task = true)) ∧
  (pastClearDone s.task = true ∨ (s.seq.state = .waitStatusFrame ∧ justReleased s.task = false) → s.sig.txDone = false)

/-! ## Terms of the statements -/

/-- The instructions of a list run in order, each from where the one before left the state. -/
def runAll : List Instr → State → Out
  | [], s => .next s
  | i :: is, s =>
    match exec i s with
    | .next t => runAll is t
    | .fault r => .fault r
    | .refused r => .refused r

/-- Live, and no inter-character timeout has run out: step 1 of RX_BYTE (42_rx_framer.md R150) has nothing to do. -/
abbrev Quiet (s : State) : Prop := s.fatal = none ∧ expired s s.rx.tmo = false

/-- Nothing hinders a task event: live, none in progress, and the environment does not interrupt the next one. -/
abbrev TaskFree (s : State) : Prop := s.fatal = none ∧ s.task = none ∧ s.env.preempt = []

/-- TaskFree, and SESSION_POLL is the enabled task event (70_reset_and_hazards.md R343). -/
abbrev SessionFree (s : State) : Prop := TaskFree s ∧ s.init.phase = .done ∧ s.sig.readyGate = true

/-- The allocator's next answer is ok (20_memory.md R77; log entry 8). -/
abbrev AllocOk (s : State) : Prop := s.env.alloc.head? ≠ some false

/-- The state after an allocation draw (20_memory.md R77; log entry 8). -/
def afterDraw (s : State) : State := { s with env.alloc := s.env.alloc.tail }

/-- The state after byte `b` went to the UART (43_tx_framer.md R190). -/
def sent (b : Byte) (s : State) : State := { s with uart := { thrEmpty := false, wireOut := s.uart.wireOut ++ [b] } }

/-- ARM_REPLY(r) (42_rx_framer.md R162). -/
def replied (r : Reply) (s : State) : State :=
  { s with sig.pendingReply := some r, sig.txActive := true, sig.txIe := true }

/-- What ROUTE and ARM_REPLY leave of a checksum-valid frame (42_rx_framer.md R160-R162): its queue by its command code and the
ready gate, then the ACK; a full queue is fatal and nothing is armed. -/
def received (f : Frame) (s : State) : State :=
  if s.build.isIndication f.command ∧ (f.command = s.build.code .reset .ind ∨ s.sig.readyGate = true) then
    if s.q.ind.length < Config.capInd then replied .ack { s with q.ind := s.q.ind ++ [f] }
    else { s with fatal := some .indQueueFull }
  else if s.build.isIndication f.command ∧ s.build.gateClosed = .drop then replied .ack s
  else if s.q.cnf.length < Config.capCnf then replied .ack { s with q.cnf := s.q.cnf ++ [f] }
  else { s with fatal := some .cnfQueueFull }

/-- What CSUM_FAIL leaves of a checksum-invalid frame (42_rx_framer.md R163). -/
def dropped (s : State) : State := if s.build.csumFail = .replyNak then replied .nak s else s

/-- The RX framer after a whole frame with this content came in back to back, before ROUTE (42_rx_framer.md R153-R160). -/
def collected (start length command : Byte) (payload : Bytes) (lsb : Byte) (s : State) : State :=
  { afterDraw s with rx := { state := .firstByte, start := start, len := length, cmd := command, data := payload,
                             csumLo := lsb, tmo := (armed s Config.tInterchar).disarm } }

/-- The well-formed request frame with this command and payload (30_encoding.md R101). -/
def request (command : Byte) (payload : Bytes) : Frame :=
  { start := Config.stxRequest, length := BitVec.ofNat 8 payload.length, command := command, payload := payload,
    checksum := checksumOf command (BitVec.ofNat 8 payload.length) payload }

/-- The longest application payload DRV_DATA takes (44_driver.md R204-R206). -/
def dataLimit (b : Build) : Nat :=
  match b.dataService with
  | .dl => Config.maxDl
  | .phy => Config.maxPhy

/-- The request DRV_DATA builds for an application payload (44_driver.md R204-R206). -/
def dataRequest (b : Build) (app : Bytes) : Frame × SenderTag :=
  match b.dataService with
  | .dl => (request (b.code .dl .req) (b.optDl ++ app), .dlData)
  | .phy => (request (b.code .phy .req) (b.optPhy ++ app), .phyData)

/-- The state with DRV_DATA's request for `app` handed to the sequencer (46_session.md R267), after its allocation draw. -/
def handedOver (app : Bytes) (s : State) : State :=
  { afterDraw s with seq.tag := (dataRequest s.build app).2, seq.frame := some (dataRequest s.build app).1 }

/-- SEQ_POLL's answer, kept for a direct call (45_sequencer.md R231; log entry 11). -/
def answered (r : PollResult) (s : State) : State := { s with result := .poll r }

/-- The sequencer back in idle (45_sequencer.md R239). -/
def idled (s : State) : State := { s with seq.state := .txreqLow, seq.tag := .inactive, seq.frame := none }

/-- User data handed to the host (46_session.md R266): dropped when q_usb_in is full. -/
def handedToHost (d : Bytes) (s : State) : State :=
  if s.q.usbIn.length < Config.capUsbIn then { s with q.usbIn := s.q.usbIn ++ [d] } else s

/-- What the Leader in WaitPing does with a frame's application payload (46_session.md R264, R266). -/
def leaderReads (app : Bytes) (s : State) : State :=
  match app with
  | [] => { s with ldr.state := .dispatch }
  | h :: d =>
    if h = Config.hdrPing then { s with fatal := some .leaderGotPing }
    else if h = Config.hdrData then
      if s.env.alloc.head? = some false then { afterDraw s with fatal := some .allocFail }
      else handedToHost d { afterDraw s with ldr.state := .dispatch }
    else { s with ldr.state := .dispatch }

/-- What the Follower sends in answer to a session ping (46_session.md R271). -/
def followerReplies (s : State) : State :=
  let app := match s.q.usbOut with
    | buf :: _ => Config.hdrData :: buf
    | [] => [Config.hdrIdle]
  let t := { s with q.usbOut := s.q.usbOut.tail }
  if dataLimit s.build < app.length then t
  else if s.env.alloc.head? = some false then { afterDraw t with fatal := some .allocFail }
  else { handedOver app t with flw := .send }

/-- What the Follower in Wait does with a frame's application payload (46_session.md R270, R271, R266). -/
def followerReads (app : Bytes) (s : State) : State :=
  match app with
  | [] => s
  | h :: d =>
    if h = Config.hdrData then
      if s.env.alloc.head? = some false then { afterDraw s with fatal := some .allocFail }
      else handedToHost d (afterDraw s)
    else if h = Config.hdrPing then
      if s.build.twoWay then followerReplies s else { s with fatal := some .followerPingOneWay }
    else s

/-- The wire bytes that a row of spec/opcode_table.json stands for, under a build: RX_BYTE's byte, a wire object, or the frame of a
command code (log entries 14 and 16). -/
def wireBytes (b : Build) : Instr → Option Bytes
  | .rxByte x => some [x]
  | .frame stx c p lsb msb => some (stx.byte :: BitVec.ofNat 8 p.length :: c :: (p ++ [lsb, msb]))
  | .stxRequest => some [0x02]
  | .stxIndication => some [0x03]
  | .ack => some [0x06]
  | .nak => some [0x15]
  | .stxStatus => some [0x3F]
  | .statusSequence v => some [0x3F, v]
  | .desync x => some [x]
  | .resetReq t p => some (serialise (commandFrame (b.code .reset .req) t p))
  | .resetCnf t p => some (serialise (commandFrame (b.code .reset .cnf) t p))
  | .resetInd t p => some (serialise (commandFrame (b.code .reset .ind) t p))
  | .resetErr t p => some (serialise (commandFrame (b.code .reset .err) t p))
  | .mibWriteReq t p => some (serialise (commandFrame (b.code .mibWrite .req) t p))
  | .mibWriteCnf t p => some (serialise (commandFrame (b.code .mibWrite .cnf) t p))
  | .mibWriteUnused2 t p => some (serialise (commandFrame (b.code .mibWrite .ind) t p))
  | .mibWriteErr t p => some (serialise (commandFrame (b.code .mibWrite .err) t p))
  | .mibEraseReq t p => some (serialise (commandFrame (b.code .mibErase .req) t p))
  | .mibEraseCnf t p => some (serialise (commandFrame (b.code .mibErase .cnf) t p))
  | .mibEraseUnused2 t p => some (serialise (commandFrame (b.code .mibErase .ind) t p))
  | .mibEraseErr t p => some (serialise (commandFrame (b.code .mibErase .err) t p))
  | .pingReq t p => some (serialise (commandFrame (b.code .ping .req) t p))
  | .pingCnf t p => some (serialise (commandFrame (b.code .ping .cnf) t p))
  | .pingUnused2 t p => some (serialise (commandFrame (b.code .ping .ind) t p))
  | .pingErr t p => some (serialise (commandFrame (b.code .ping .err) t p))
  | .phyReq t p => some (serialise (commandFrame (b.code .phy .req) t p))
  | .phyCnf t p => some (serialise (commandFrame (b.code .phy .cnf) t p))
  | .phyInd t p => some (serialise (commandFrame (b.code .phy .ind) t p))
  | .phyErr t p => some (serialise (commandFrame (b.code .phy .err) t p))
  | .dlReq t p => some (serialise (commandFrame (b.code .dl .req) t p))
  | .dlCnf t p => some (serialise (commandFrame (b.code .dl .cnf) t p))
  | .dlInd t p => some (serialise (commandFrame (b.code .dl .ind) t p))
  | .dlErr t p => some (serialise (commandFrame (b.code .dl .err) t p))
  | .commandReserved c t p => some (serialise (commandFrame c t p))
  | _ => none

/-- RX_BYTE events with other events between them: after the i-th byte, the i-th list. -/
def spaced : Bytes → List (List Instr) → List Instr
  | [], _ => []
  | b :: bs, [] => .rxByte b :: spaced bs []
  | b :: bs, g :: gs => .rxByte b :: (g ++ spaced bs gs)

/-- The clock moves on by `g` ticks, which for none is no event (60_exceptions.md R322: n ≥ 1). -/
def ticking (g : Word32) : List Instr := if g = 0 then [] else [.clockAdvance g]

/-- `k` repetitions of TX_READY, each followed by UART_SHIFT (30_encoding.md R114). -/
def txrShift : Nat → List Instr
  | 0 => []
  | k + 1 => .txReady :: .uartShift :: txrShift k

/-! ## Terms of the statements about primitive steps (20_memory.md R72 (b), 60_exceptions.md R315) -/

/-- The state with the task event standing at primitive step `p`. -/
def standing (p : TaskPoint) (s : State) : State := { s with task := some p }

/-- The state with the task event ended. -/
def ended (s : State) : State := { s with task := none }

/-- The task event ended by `raise Fatal(r)` (60_exceptions.md R306). -/
def fatalEnd (r : FatalReason) (s : State) : State := { s with fatal := some r, task := none }

/-- What a task event does after one of its primitive steps led to an outcome: it ends, and its budget of the preemption schedule is
used up; or it goes on under what is left of that budget, as event `e` does from there. -/
def goesOn (e : Instr) : Out → Out
  | .next t => if t.task = none then .next { t with env.preempt := t.env.preempt.tail } else exec e t
  | .fault r => .fault r
  | .refused r => .refused r

/-- SEQ_POLL is called (45_sequencer.md R231): the first primitive step of the stage comes next, or it is fatal with no active tag
(at once: log entry 26). -/
def pollBegins (k : Caller) (s : State) : State :=
  if s.seq.tag = .inactive then fatalEnd .seqPollInactive s
  else
    match s.seq.state with
    | .txreqLow => standing (.seq k .clearDone) s
    | .waitStatusFrame => standing (.seq k .takeStatus) s
    | .waitTxFrameDone => standing (.seq k .readDone) s
    | .waitAck => standing (.seq k .takeAck) s
    | .waitCnf => standing (.seq k .takeCnf) s

/-- SEQ_POLL returns to its caller: a direct call keeps the answer (log entry 11); the Leader in SendData (46_session.md R262) and in
SendPing (R263) and the Follower in Send (R272), with the error classes of R265, react to it; a fatal error is raised at once (log entry 26). -/
def pollReturns (k : Caller) (r : PollResult) (s : State) : State :=
  match k, r with
  | .direct, _ => ended (answered r s)
  | _, .wouldBlock => ended s
  | .ldrSendData, .ready _ => ended { s with ldr.state := .dispatch }
  | .ldrSendPing, .ready _ => standing (.ldr .armPing) s
  | .flwSend, .ready _ => ended { s with flw := .wait }
  | .flwSend, .fail e =>
    if e ∈ [Error.txErrNoStatus, .txErrAckTmo] then ended { s with flw := .wait } else fatalEnd .followerFatalTxError s
  | _, .fail e =>
    if e ∈ [Error.txErrNoStatus, .txErrAckTmo, .txErrBusy, .txErrNak] then standing (.ldr .armFail) s
    else fatalEnd .leaderFatalTxError s

/-- The Leader's dispatch on ldr_state (46_session.md R260). -/
def leaderEnters (s : State) : State :=
  match s.ldr.state with
  | .dispatch => standing (.ldr .takeOut) s
  | .sendData => pollBegins .ldrSendData s
  | .sendPing => pollBegins .ldrSendPing s
  | .waitPing => standing (.ldr .checkPing) s

/-- SESSION_POLL begins: the Leader's back-off prologue (46_session.md R260), or the Follower's dispatch on flw_state (R270). -/
def sessionEnters (s : State) : State :=
  match s.build.role with
  | .leader => if s.ldr.failTmo.armed then standing (.ldr .checkBackoff) s else leaderEnters s
  | .follower =>
    match s.flw with
    | .wait => standing (.flw .takeInd) s
    | .send => pollBegins .flwSend s

/-- The session has read an application payload and goes on with it: the header's arm up to the next primitive step, for the Leader in
WaitPing (46_session.md R264). The allocation draw and the raises go with the Dequeue before them (log entry 26). -/
def leaderGoesOn (app : Bytes) (s : State) : State :=
  match app with
  | [] => ended { s with ldr.state := .dispatch }
  | h :: d =>
    if h = Config.hdrPing then fatalEnd .leaderGotPing s
    else if h = Config.hdrData then
      if s.env.alloc.head? = some false then fatalEnd .allocFail (afterDraw s)
      else standing (.ldr (.putIn d)) (afterDraw s)
    else ended { s with ldr.state := .dispatch }

/-- The same for the Follower in Wait (46_session.md R270). -/
def followerGoesOn (app : Bytes) (s : State) : State :=
  match app with
  | [] => ended s
  | h :: d =>
    if h = Config.hdrData then
      if s.env.alloc.head? = some false then fatalEnd .allocFail (afterDraw s)
      else standing (.flw (.putIn d)) (afterDraw s)
    else if h = Config.hdrPing then
      if s.build.twoWay then standing (.flw .takeOut) s else fatalEnd .followerPingOneWay s
    else ended s

/-- DRV_INIT begins, by init_phase (44_driver.md R209). -/
def initEnters (s : State) : State :=
  match s.init.phase with
  | .notStarted => standing (.init .lineLow) s
  | .resetLow => standing (.init .checkLow) s
  | .waitInd => standing (.init .checkPoll) s
  | .done => s

/-- The events of 20_memory.md R72 (b) that may fall between two primitive steps, and the rows that stand for RX_BYTE events (log
entries 14 and 16). -/
def interrupts (b : Build) (i : Instr) : Prop :=
  (wireBytes b i).isSome ∨ i = .txReady ∨ i = .uartShift ∨ (∃ n, i = .clockAdvance n) ∨ (∃ buf, i = .hostOutPush buf) ∨
    i = .hostInPop

end Sys2Proof.Machine
end

