-- ==== Sys2Proof/Certificates/Slice0/Obligations.lean ====
section
/-! DEFINITION. The statements for the provers, in the order of OBLIGATIONS.json. An equation `exec i s = .next { s with ... }` says
the instruction's result and its frame at once: every field not named keeps its value. The engine has no memory
(20_memory.md R60), so no statement speaks of memory bytes. -/
open Sys2Proof Sys2Proof.Machine

/-! ## Encodings -/

/-- Words written out from the encodings of 30_encoding.md decode to the instructions they stand for. -/
def Obligations.SampleWordsDecode : Prop :=
  decode Build.default { space := .event, bytes := [0x01, 0x41] } = .ok (.rxByte 0x41, []) ∧
  decode Build.default { space := .event, bytes := [0x04, 0x05, 0x00, 0x00, 0x00] } = .ok (.clockAdvance 5, []) ∧
  decode Build.default { space := .event, bytes := [0x0C] } = .ok (.seqPoll, []) ∧
  decode Build.default { space := .event, bytes := [0x0F, 0x05] } = .ok (.drvMibErase 5, []) ∧
  decode Build.default { space := .wireFrame, bytes := [0x02, 0x03, 0x50, 0x01, 0x41, 0x42, 0xD7, 0x00] } =
    .ok (.frame .request 0x50 [0x01, 0x41, 0x42] 0xD7 0x00, []) ∧
  decode Build.default { space := .firstByte, bytes := [0x06] } = .ok (.ack, []) ∧
  decode Build.default { space := .firstByte, bytes := [0x15] } = .ok (.nak, []) ∧
  decode Build.default { space := .firstByte, bytes := [0x3F] } = .ok (.stxStatus, []) ∧
  decode Build.default { space := .firstByte, bytes := [0x41] } = .ok (.desync 0x41, []) ∧
  decode Build.default { space := .wireStatus, bytes := [0x3F, 0x04] } = .ok (.statusSequence 0x04, []) ∧
  decode Build.default { space := .header, bytes := [0x01, 0x48, 0x49] } = .ok (.hdrData [0x48, 0x49], []) ∧
  decode Build.default { space := .command, bytes := [0x3E, 0x01, 0x00, 0x00] } = .ok (.resetInd .indication [], [])

/-- The next slot of the trace, decoded, is what a step runs, and the step takes that slot off the trace and does nothing else; with
nothing scheduled a step leaves the state; a slot that encodes nothing is refused. The trace is the model's (log entry 1). -/
def Obligations.StepRunsDecodedInstruction : Prop :=
  ∀ s : State,
    (∀ slot rest i r, s.env.trace = slot :: rest → decode s.build slot = .ok (i, r) →
      step s = exec i { s with env.trace := rest }) ∧
    (s.env.trace = [] → step s = .next s) ∧
    (∀ slot rest e, s.env.trace = slot :: rest → decode s.build slot = .error e → step s = .refused (.undecodable e))

/-- Decoding an encoded well-formed instruction gives it back, every operand at every value, under every build the spec allows. -/
def Obligations.DecodeAfterEncode : Prop :=
  ∀ (b : Build) (i : Instr), b.wf = true → i.wf b = true → decode b (encode b i) = .ok (i, [])

/-- What decodes to an instruction is that instruction's encoding, followed by the bytes the decoder left. -/
def Obligations.EncodeAfterDecode : Prop :=
  ∀ (b : Build) (slot : Slot) (i : Instr) (rest : Bytes), decode b slot = .ok (i, rest) →
    (encode b i).space = slot.space ∧ slot.bytes = (encode b i).bytes ++ rest

/-! ## Codec -/

/-- R130: CHECKSUM is the 16-bit wrapping sum of command, length and the payload bytes actually present. For a payload over 255 bytes,
which R130 does not allow, the value is the model's choice (log entry 25). -/
def Obligations.ChecksumIsWrappingSum : Prop :=
  ∀ (c l : Byte) (p : Bytes) (s : State), s.fatal = none →
    exec (.checksum c l p) s =
      .next { s with result := .checksum (BitVec.ofNat 16 (c.toNat + l.toNat + (p.map BitVec.toNat).sum)) }

/-- R135: within the operand bounds the exact sum is at most 0xFFFF, and the checksum equals it. -/
def Obligations.ChecksumNeverWraps : Prop :=
  ∀ (c l : Byte) (p : Bytes), p.length ≤ 255 →
    c.toNat + l.toNat + (p.map BitVec.toNat).sum ≤ 65535 ∧
    (checksumOf c l p).toNat = c.toNat + l.toNat + (p.map BitVec.toNat).sum

/-- R136: flipping bit k of one payload byte, of LENGTH or of COMMAND changes the checksum by plus or minus 2^k, so it changes it; two
flips of opposite sign in two payload bytes cancel. -/
def Obligations.SingleBitFlipChangesChecksum : Prop :=
  ∀ (c l : Byte) (p : Bytes) (k : Nat), k < 8 →
    let changed := fun v : Word16 =>
      (v = checksumOf c l p + BitVec.ofNat 16 (2 ^ k) ∨ v = checksumOf c l p - BitVec.ofNat 16 (2 ^ k)) ∧
      v ≠ checksumOf c l p
    let flip := fun x : Byte => x ^^^ BitVec.ofNat 8 (2 ^ k)
    changed (checksumOf (flip c) l p) ∧ changed (checksumOf c (flip l) p) ∧
    (∀ i x, p[i]? = some x → changed (checksumOf c l (p.set i (flip x)))) ∧
    (∀ i j x y, p[i]? = some x → p[j]? = some y → x.getLsbD k = false → y.getLsbD k = true →
      checksumOf c l ((p.set i (flip x)).set j (flip y)) = checksumOf c l p)

/-- R131, and 60_exceptions.md R308 for the choice it leaves: FRAME_NEW with operands that meet its `require` builds the well-formed
frame with the computed checksum; with operands that do not, the model raises Fatal(FRAME_INVARIANT) (log entry 13). -/
def Obligations.FrameNewBuildsOrFaults : Prop :=
  ∀ (start length command : Byte) (p : Bytes) (s : State), s.fatal = none →
    (p.length ≤ 255 → length.toNat = p.length → start = 0x02 ∨ start = 0x03 →
      ∃ f, exec (.frameNew start length command p) s = .next { s with result := .frame f } ∧ frameWf f = true ∧
        f = { start := start, length := length, command := command, payload := p,
              checksum := checksumOf command length p }) ∧
    (¬ (p.length ≤ 255 ∧ length.toNat = p.length ∧ (start = 0x02 ∨ start = 0x03)) →
      exec (.frameNew start length command p) s = .next { s with fatal := some .frameInvariant })

/-- R132, R134: FRAME_CHECKSUM recomputes from the fields, whatever checksum is stored; FRAME_SERIALISE gives START, LENGTH, COMMAND,
the payload and the stored checksum low byte first, LENGTH + 5 bytes for a well-formed frame. Of a frame that is not well-formed, but
for FRAME_CHECKSUM's of a wrong stored checksum, the answers are the model's choice (log entry 25). -/
def Obligations.FrameChecksumAndSerialise : Prop :=
  ∀ (f : Frame) (s : State), s.fatal = none →
    exec (.frameChecksum f) s = .next { s with result := .checksum (checksumOf f.command f.length f.payload) } ∧
    exec (.frameSerialise f) s =
      .next { s with result := .bytes ([f.start, f.length, f.command] ++ f.payload ++
        [f.checksum.extractLsb' 0 8, f.checksum.extractLsb' 8 8]) } ∧
    (frameWf f = true → (serialise f).length = f.length.toNat + 5)

/-! ## Timeouts and the clock -/

/-- R121, R122, R123: TIMEOUT_SET arms the named Timeout from the current clock for ms * TICKS_PER_MS ticks; TIMEOUT_DISARM clears
`armed` and keeps the other two fields; neither touches anything else. TIMEOUT_EXPIRED answers false of an unarmed Timeout, and of an
armed one whether the elapsed ticks, modulo 2^32, reach its duration, and changes nothing. For each Timeout the build has (log entry
24). -/
def Obligations.TimeoutOperations : Prop :=
  ∀ (t : TimeoutId) (ms : Word16) (s : State), s.fatal = none →
    s.build.role = .leader ∨ (t ≠ .ldrFail ∧ t ≠ .ldrPing) →
    (∃ u, exec (.timeoutSet t ms) s = .next u ∧ (getTimeoutReg t u).armed = true ∧
      (getTimeoutReg t u).start = s.clock ∧
      (getTimeoutReg t u).duration.toNat = ms.toNat * s.build.tickRate.perMs ∧
      setTimeoutReg t (getTimeoutReg t s) u = s) ∧
    (∃ u, exec (.timeoutDisarm t) s = .next u ∧
      getTimeoutReg t u = { armed := false, start := (getTimeoutReg t s).start, duration := (getTimeoutReg t s).duration } ∧
      setTimeoutReg t (getTimeoutReg t s) u = s) ∧
    (let r := getTimeoutReg t s
     let elapsed := (s.clock.toNat + (2 ^ 32 - r.start.toNat)) % 2 ^ 32
     (r.armed = false → exec (.timeoutExpired t) s = .next { s with result := .flag false }) ∧
     (r.armed = true → exec (.timeoutExpired t) s =
       .next { s with result := .flag (decide (r.duration.toNat ≤ elapsed)) }))

/-- R120, R121, R122, R322: a Timeout set for ms milliseconds and tested n ticks later (n < 2^32) is expired exactly when n has reached
its duration, across a wrap of the clock too. -/
def Obligations.TimeoutExactAcrossWrap : Prop :=
  ∀ (t : TimeoutId) (ms : Word16) (n : Word32) (s : State), s.fatal = none → n ≠ 0 →
    s.build.role = .leader ∨ (t ≠ .ldrFail ∧ t ≠ .ldrPing) →
    ∃ u, runAll [.timeoutSet t ms, .clockAdvance n, .timeoutExpired t] s = .next u ∧
      u.result = .flag (decide (ms.toNat * s.build.tickRate.perMs ≤ n.toNat))

/-- R322, R191: CLOCK_ADVANCE adds n to the clock modulo 2^32, for n of 1 or more; UART_SHIFT empties the holding register, and has no
step when it is empty. -/
def Obligations.ClockAdvanceAndUartShift : Prop :=
  ∀ s : State, s.fatal = none →
    (∀ n : Word32, n ≠ 0 →
      exec (.clockAdvance n) s = .next { s with clock := BitVec.ofNat 32 (s.clock.toNat + n.toNat) }) ∧
    exec (.clockAdvance 0) s = .refused .zeroAdvance ∧
    (s.uart.thrEmpty = false → exec .uartShift s = .next { s with uart.thrEmpty := true }) ∧
    (s.uart.thrEmpty = true → exec .uartShift s = .refused .notEnabled)

/-! ## RX framer -/

/-- R309, R150: every byte is accepted in every receive state; only a full queue or the allocator can make it fatal; and RX_BYTE
changes only the RX framer's registers, the five signals it may write, the four queues it feeds, fatal and the allocation draws. -/
def Obligations.EveryByteIsTaken : Prop :=
  ∀ (b : Byte) (s : State), s.fatal = none →
    ∃ t, exec (.rxByte b) s = .next t ∧
      (t.fatal = none ∨ t.fatal = some .indQueueFull ∨ t.fatal = some .cnfQueueFull ∨ t.fatal = some .statusQueueFull ∨
        t.fatal = some .ackQueueFull ∨ t.fatal = some .allocFail) ∧
      (t.env.alloc = s.env.alloc ∨ t.env.alloc = s.env.alloc.tail) ∧
      t = { s with
        rx := t.rx, fatal := t.fatal, env.alloc := t.env.alloc,
        sig := { s.sig with ackWait := t.sig.ackWait, statusWait := t.sig.statusWait, pendingReply := t.sig.pendingReply,
                            txActive := t.sig.txActive, txIe := t.sig.txIe },
        q := { s.q with ind := t.q.ind, cnf := t.q.cnf, status := t.q.status, ack := t.q.ack } }

/-- R150, step 1: when the inter-character timeout has run out, the byte is taken as a first byte, and the partial frame leaves no
trace. -/
def Obligations.ExpiredTimeoutAbandonsFrame : Prop :=
  ∀ (b : Byte) (s : State), s.fatal = none → expired s s.rx.tmo = true →
    exec (.rxByte b) s = exec (.rxByte b) { s with rx.state := .firstByte, rx.tmo.armed := false }

/-- R151: at FirstByte an ACK or NAK is queued and ends the wait for it, or cancels the wait for a status, or changes nothing; a full
q_ack is fatal. For RX_BYTE, and for the rows ACK and NAK, which are the model's RX_BYTE of their byte (DESIGN CHOICE, log entry
14). -/
def Obligations.AckNakDelivered : Prop :=
  ∀ (r : Reply) (i : Instr) (s : State), (r, i) ∈ [(Reply.ack, Instr.rxByte 0x06), (.ack, .ack), (.nak, .rxByte 0x15), (.nak, .nak)] →
    Quiet s → s.rx.state = .firstByte →
    (s.sig.ackWait = true → s.q.ack.length < 2 →
      exec i s = .next { s with q.ack := s.q.ack ++ [r], sig.ackWait := false }) ∧
    (s.sig.ackWait = true → 2 ≤ s.q.ack.length → exec i s = .next { s with fatal := some .ackQueueFull }) ∧
    (s.sig.ackWait = false → s.sig.statusWait = true → exec i s = .next { s with sig.statusWait := false }) ∧
    (s.sig.ackWait = false → s.sig.statusWait = false → exec i s = .next s)

/-- R152, R155: at FirstByte the status marker starts a status sequence when one is awaited, and else ends the wait for an ACK; the byte
after the marker is the status, whatever its value; a full q_status is fatal. The rows STX_STATUS and STATUS_SEQUENCE (30_encoding.md
R94) are the model's RX_BYTE events of their bytes, back to back (DESIGN CHOICE, log entry 14): a sequence that is awaited queues its
status byte; one that is not ends the wait for an ACK, and its second byte is classified as a first byte (70_reset_and_hazards.md
R355). -/
def Obligations.StatusMarkerAndByte : Prop :=
  (∀ (i : Instr) (s : State), i ∈ [Instr.rxByte 0x3F, .stxStatus] → Quiet s → s.rx.state = .firstByte →
    (s.sig.statusWait = true → exec i s = .next { s with rx.state := .statusValue }) ∧
    (s.sig.statusWait = false → exec i s = .next { s with sig.ackWait := false })) ∧
  (∀ (b : Byte) (s : State), Quiet s → s.rx.state = .statusValue →
    (s.q.status.length < 2 → exec (.rxByte b) s =
      .next { s with q.status := s.q.status ++ [b], sig.statusWait := false, rx.state := .firstByte }) ∧
    (2 ≤ s.q.status.length → exec (.rxByte b) s = .next { s with fatal := some .statusQueueFull })) ∧
  (∀ (v : Byte) (s : State), Quiet s → s.rx.state = .firstByte →
    (s.sig.statusWait = true → s.q.status.length < 2 →
      exec (.statusSequence v) s = .next { s with q.status := s.q.status ++ [v], sig.statusWait := false }) ∧
    (s.sig.statusWait = true → 2 ≤ s.q.status.length →
      exec (.statusSequence v) s = .next { s with rx.state := .statusValue, fatal := some .statusQueueFull }) ∧
    (s.sig.statusWait = false → exec (.statusSequence v) s = exec (.rxByte v) { s with sig.ackWait := false }))

/-- R153: at FirstByte either start byte begins a frame and arms the inter-character timer, if the allocator answers ok; else it is
fatal. For RX_BYTE, and for the rows STX_REQUEST and STX_INDICATION, which are the model's RX_BYTE of their byte (DESIGN CHOICE, log
entry 14). -/
def Obligations.StartByteBeginsFrame : Prop :=
  ∀ (b : Byte) (i : Instr) (s : State),
    (b, i) ∈ [((0x02 : Byte), Instr.rxByte 0x02), (0x02, .stxRequest), (0x03, .rxByte 0x03), (0x03, .stxIndication)] →
    Quiet s → s.rx.state = .firstByte →
    (AllocOk s → exec i s = .next { afterDraw s with
      rx := { state := .length, start := b, len := 0, cmd := 0, data := [], csumLo := 0,
              tmo := { armed := true, start := s.clock, duration := BitVec.ofNat 32 (10 * s.build.tickRate.perMs) } } }) ∧
    (¬ AllocOk s → exec i s = .next { afterDraw s with fatal := some .allocFail })

/-- R154: at FirstByte any other byte ends both waits and changes nothing else. For RX_BYTE, and for the row DESYNC,
which is the model's RX_BYTE of its byte (DESIGN CHOICE, log entry 14). -/
def Obligations.DesyncByteEndsWaits : Prop :=
  ∀ (b : Byte) (i : Instr) (s : State), i ∈ [Instr.rxByte b, .desync b] →
    b ≠ 0x02 → b ≠ 0x03 → b ≠ 0x06 → b ≠ 0x15 → b ≠ 0x3F → Quiet s → s.rx.state = .firstByte →
    exec i s = .next { s with sig.ackWait := false, sig.statusWait := false }

/-- R156-R159 with the per-byte re-arm of R164: the LENGTH, COMMAND, payload and low checksum bytes are collected in turn. -/
def Obligations.FrameFieldsAreCollected : Prop :=
  ∀ (b : Byte) (s : State), Quiet s →
    let tmo : Timeout :=
      if s.build.rxRearm = .perByte then
        { armed := true, start := s.clock, duration := BitVec.ofNat 32 (10 * s.build.tickRate.perMs) }
      else s.rx.tmo
    (s.rx.state = .length → exec (.rxByte b) s = .next { s with rx.len := b, rx.state := .command, rx.tmo := tmo }) ∧
    (s.rx.state = .command → s.rx.len = 0 →
      exec (.rxByte b) s = .next { s with rx.cmd := b, rx.state := .checksumLsb, rx.tmo := tmo }) ∧
    (s.rx.state = .command → s.rx.len ≠ 0 →
      exec (.rxByte b) s = .next { s with rx.cmd := b, rx.state := .data, rx.tmo := tmo }) ∧
    (s.rx.state = .data → s.rx.data.length + 1 = s.rx.len.toNat →
      exec (.rxByte b) s = .next { s with rx.data := s.rx.data ++ [b], rx.state := .checksumLsb, rx.tmo := tmo }) ∧
    (s.rx.state = .data → s.rx.data.length + 1 ≠ s.rx.len.toNat →
      exec (.rxByte b) s = .next { s with rx.data := s.rx.data ++ [b], rx.tmo := tmo }) ∧
    (s.rx.state = .checksumLsb →
      exec (.rxByte b) s = .next { s with rx.csumLo := b, rx.state := .checksumMsb, rx.tmo := tmo })

/-- R160-R163: the high checksum byte completes the frame. A valid one goes to its queue by command code and gate and is acknowledged
(`received`); an invalid one is dropped, or answered with NAK in the labelled variant (`dropped`). -/
def Obligations.ChecksumMsbCompletesFrame : Prop :=
  ∀ (b : Byte) (s : State), Quiet s → s.rx.state = .checksumMsb →
    let sum := BitVec.ofNat 16 (s.rx.csumLo.toNat + 256 * b.toNat)
    let t := { s with rx.state := .firstByte, rx.tmo.armed := false }
    (sum = checksumOf s.rx.cmd s.rx.len s.rx.data → exec (.rxByte b) s = .next (received
      { start := s.rx.start, length := s.rx.len, command := s.rx.cmd, payload := s.rx.data, checksum := sum } t)) ∧
    (sum ≠ checksumOf s.rx.cmd s.rx.len s.rx.data → exec (.rxByte b) s = .next (dropped t))

/-- The rows that stand for wire bytes are those bytes as RX_BYTE events back to back, up to the first that is fatal (log entries 14
and 16; 30_encoding.md R114 for the expansion). -/
def Obligations.WireRowsAreRxBytes : Prop :=
  ∀ (i : Instr) (pre suf : Bytes) (s t : State), i.wf s.build = true → s.fatal = none →
    wireBytes s.build i = some (pre ++ suf) → runAll (pre.map Instr.rxByte) s = .next t →
    suf = [] ∨ t.fatal ≠ none → exec i s = .next t

/-- R90, R133, R160-R163: the row FRAME at FirstByte. With the right checksum bytes the frame is received, with others it is dropped;
the allocator's exhausted answer at its start is fatal. -/
def Obligations.FrameRowIsReceived : Prop :=
  ∀ (stx : Stx) (c : Byte) (p : Bytes) (lsb msb : Byte) (s : State), p.length ≤ 255 → Quiet s → s.rx.state = .firstByte →
    let len := BitVec.ofNat 8 p.length
    let sum := BitVec.ofNat 16 (lsb.toNat + 256 * msb.toNat)
    (AllocOk s → sum = checksumOf c len p → exec (.frame stx c p lsb msb) s = .next (received
      { start := stx.byte, length := len, command := c, payload := p, checksum := sum }
      (collected stx.byte len c p lsb s))) ∧
    (AllocOk s → sum ≠ checksumOf c len p →
      exec (.frame stx c p lsb msb) s = .next (dropped (collected stx.byte len c p lsb s))) ∧
    (¬ AllocOk s → exec (.frame stx c p lsb msb) s = .next { afterDraw s with fatal := some .allocFail })

/-- R137: delivering the serialisation of a well-formed frame to the RX framer at FirstByte, byte by byte, with no inter-character timeout
expiring in between and no other byte, reproduces the frame, which is then routed and acknowledged. First with nothing but the clock
moving between the bytes, by any number of ticks, none included. Then with any instructions between them that carry no byte and are no
RESET: the last byte, in whatever live state these leave. -/
def Obligations.RoundTripReproducesFrame : Prop :=
  ∀ (f : Frame) (s : State), frameWf f = true → Quiet s → s.rx.state = .firstByte → AllocOk s →
    let reproduced := fun t : State => t.rx.state = .firstByte ∧ t.rx.tmo.armed = false ∧
      { start := t.rx.start, length := t.rx.len, command := t.rx.cmd, payload := t.rx.data,
        checksum := word16 t.rx.csumLo (f.checksum.extractLsb' 8 8) } = f
    (∀ gaps : List Word32, gaps.length < (serialise f).length →
      (s.build.rxRearm = .perByte ∧ (∀ g ∈ gaps, g.toNat < 10 * s.build.tickRate.perMs)) ∨
        (s.build.rxRearm = .frameStartOnly ∧ (gaps.map BitVec.toNat).sum < 10 * s.build.tickRate.perMs) →
      ∃ t, runAll (spaced (serialise f) (gaps.map ticking)) s = .next t ∧ reproduced t ∧
        t = received f { afterDraw s with rx := t.rx, clock := gaps.foldl (· + ·) s.clock }) ∧
    (∀ (between : List (List Instr)) (u : State),
      (∀ is ∈ between, ∀ i ∈ is, wireBytes s.build i = none ∧ i ≠ .reset) →
      runAll (spaced ((serialise f).take (f.payload.length + 4)) between) s = .next u → u.fatal = none →
      (∀ n v, 0 < n → n ≤ f.payload.length + 4 →
        runAll (spaced ((serialise f).take n) between) s = .next v → expired v v.rx.tmo = false) →
      ∃ t, exec (.rxByte (f.checksum.extractLsb' 8 8)) u = .next t ∧ reproduced t ∧ t = received f { u with rx := t.rx })

/-- R97, R105, R161, R162: a checksum-valid frame with a command code of the table, an unused BASE + 2 code or a reserved code, at
FirstByte, is routed by its code and the ready gate and acknowledged. -/
def Obligations.CommandRowsAreRouted : Prop :=
  ∀ (i : Instr) (c : Byte) (stx : Stx) (p : Bytes) (s : State),
    (∃ v, v ∈ tableCodes ++ unusedCodes ∧ i = commandInstr v stx p ∧ c = s.build.code v.1 v.2) ∨
      i = .commandReserved c stx p →
    p.length ≤ 255 → Quiet s → s.rx.state = .firstByte → AllocOk s →
    let f := commandFrame c stx p
    exec i s = .next (received f (collected f.start f.length f.command f.payload (f.checksum.extractLsb' 0 8) s))

/-! ## TX framer -/

/-- R181-R189: with tx_active down TX_READY does nothing; a pending reply is sent first and the frame in progress waits; else SendStx
takes the next frame and sends its START byte, or goes idle; then LENGTH with the line's release, COMMAND, the payload bytes, the stored
checksum low byte first, and TxDone, which sends nothing. -/
def Obligations.TxReadySendsNextByte : Prop :=
  ∀ s : State, s.fatal = none → s.sig.txIe = true → s.uart.thrEmpty = true →
    (s.sig.txActive = false → exec .txReady s = .next s) ∧
    (∀ r, s.sig.txActive = true → s.sig.pendingReply = some r →
      exec .txReady s = .next { sent r.byte s with sig.pendingReply := none }) ∧
    (s.sig.txActive = true → s.sig.pendingReply = none → s.tx.state = .sendStx →
      (s.tx.frame = none → s.q.tx = [] → exec .txReady s = .next { s with sig.txIe := false, sig.txActive := false }) ∧
      (∀ f rest, s.tx.frame = none → s.q.tx = f :: rest → exec .txReady s =
        .next { sent f.start s with q.tx := rest, tx := { state := .sendLength, frame := some f, idx := 0 } }) ∧
      (∀ f, s.tx.frame = some f → exec .txReady s =
        .next { sent f.start s with tx := { state := .sendLength, frame := some f, idx := 0 } })) ∧
    (∀ f, s.sig.txActive = true → s.sig.pendingReply = none → s.tx.frame = some f →
      (s.tx.state = .sendLength →
        exec .txReady s = .next { sent f.length s with line.txreq := .high, tx.state := .sendCommand }) ∧
      (s.tx.state = .sendCommand → exec .txReady s =
        .next { sent f.command s with tx.state := if f.length = 0 then .sendChecksumLsb else .sendData }) ∧
      (∀ b, s.tx.state = .sendData → f.payload[s.tx.idx]? = some b → exec .txReady s =
        .next { sent b s with tx.idx := s.tx.idx + 1,
                              tx.state := if s.tx.idx + 1 = f.length.toNat then .sendChecksumLsb else .sendData }) ∧
      (s.tx.state = .sendChecksumLsb →
        exec .txReady s = .next { sent (f.checksum.extractLsb' 0 8) s with tx.state := .sendChecksumMsb }) ∧
      (s.tx.state = .sendChecksumMsb →
        exec .txReady s = .next { sent (f.checksum.extractLsb' 8 8) s with tx.state := .txDone }) ∧
      (s.tx.state = .txDone → exec .txReady s =
        .next { s with sig.txIe := false, sig.txActive := false, sig.txDone := true,
                       tx := { state := .sendStx, frame := none, idx := 0 } }))

/-- R180 and the opening of 43_tx_framer.md: a TX_READY writes at most one byte, and changes nothing but the TX framer's registers, four
signals, q_tx, the transmit-request line and the UART. -/
def Obligations.TxReadyTouchesOnlyTransmit : Prop :=
  ∀ s t : State, exec .txReady s = .next t →
    (t.uart = s.uart ∨ ∃ b, t.uart = { thrEmpty := false, wireOut := s.uart.wireOut ++ [b] }) ∧
    (t.q.tx = s.q.tx ∨ t.q.tx = s.q.tx.tail) ∧
    t = { s with
      tx := t.tx, uart := t.uart, q.tx := t.q.tx, line.txreq := t.line.txreq,
      sig := { s.sig with txActive := t.sig.txActive, txIe := t.sig.txIe, txDone := t.sig.txDone,
                          pendingReply := t.sig.pendingReply } }

/-- R134, R182-R188: with a well-formed frame first in q_tx and no reply pending, LENGTH + 5 TX_READY events with their shifts and one
more put exactly its serialisation on the wire, signal tx_done and leave the framer idle. -/
def Obligations.TxSendsSerialisation : Prop :=
  ∀ (f : Frame) (rest : List Frame) (s : State), frameWf f = true → s.fatal = none → s.sig.txIe = true →
    s.uart.thrEmpty = true → s.sig.txActive = true → s.sig.pendingReply = none → s.tx.state = .sendStx →
    s.tx.frame = none → s.q.tx = f :: rest →
    runAll (txrShift (f.length.toNat + 5) ++ [.txReady]) s =
      .next { s with
        sig := { s.sig with txIe := false, txActive := false, txDone := true }, line.txreq := .high,
        tx := { state := .sendStx, frame := none, idx := 0 }, q.tx := rest,
        uart.wireOut := s.uart.wireOut ++ serialise f }

/-! ## Driver -/

/-- R101, R200-R206: each builder, within its length limit and with an ok draw, answers its family's request frame and tag, and writes
nothing else. -/
def Obligations.BuildersBuildRequests : Prop :=
  ∀ (index : Byte) (buf : Bytes) (s : State), s.build.wf = true → s.fatal = none → AllocOk s →
    let built := fun (c : Byte) (p : Bytes) (tag : SenderTag) =>
      Host.Outcome.next (φ := Fault) (ρ := Refusal) { afterDraw s with result := .built (request c p) tag }
    exec .drvResetReq s = built (s.build.code .reset .req) [] .reset ∧
    exec (.drvMibErase index) s = built (s.build.code .mibErase .req) [index] .mibErase ∧
    (buf.length ≤ 253 → exec (.drvMibWrite index buf) s = built (s.build.code .mibWrite .req) (index :: buf) .mibWrite) ∧
    (buf.length ≤ 254 → exec (.drvPing buf) s = built (s.build.code .ping .req) buf (.ping buf)) ∧
    (buf.length ≤ 250 →
      exec (.drvPhyData buf) s = built (s.build.code .phy .req) (s.build.optPhy ++ buf) .phyData) ∧
    (buf.length ≤ 242 → exec (.drvDlData buf) s = built (s.build.code .dl .req) (s.build.optDl ++ buf) .dlData) ∧
    (s.build.dataService = .dl → buf.length ≤ 242 →
      exec (.drvData buf) s = built (s.build.code .dl .req) (s.build.optDl ++ buf) .dlData) ∧
    (s.build.dataService = .phy → buf.length ≤ 250 →
      exec (.drvData buf) s = built (s.build.code .phy .req) (s.build.optPhy ++ buf) .phyData)

/-- R201, R203-R206, R77: over its limit a builder answers ErrArgs and draws nothing; within it, an exhausted allocator is fatal. -/
def Obligations.BuildersRejectOrFault : Prop :=
  ∀ (index : Byte) (buf : Bytes) (s : State), s.fatal = none →
    (∀ i : Instr, i = .drvMibWrite index buf ∧ 253 < buf.length ∨ i = .drvPing buf ∧ 254 < buf.length ∨
        i = .drvPhyData buf ∧ 250 < buf.length ∨ i = .drvDlData buf ∧ 242 < buf.length ∨
        i = .drvData buf ∧ dataLimit s.build < buf.length →
      exec i s = .next { s with result := .failed .errArgs }) ∧
    (∀ i : Instr, ¬ AllocOk s → i = .drvResetReq ∨ i = .drvMibErase index ∨ i = .drvMibWrite index buf ∧ buf.length ≤ 253 ∨
        i = .drvPing buf ∧ buf.length ≤ 254 ∨ i = .drvPhyData buf ∧ buf.length ≤ 250 ∨ i = .drvDlData buf ∧ buf.length ≤ 242 ∨
        i = .drvData buf ∧ buf.length ≤ dataLimit s.build →
      exec i s = .next { afterDraw s with fatal := some .allocFail })

/-- R207, R208: DRV_RECEIVE_FRAME takes the first frame of q_ind, or none; DRV_SET_READY opens the gate. -/
def Obligations.ReceiveFrameAndSetReady : Prop :=
  ∀ s : State, s.fatal = none → s.task = none →
    (s.q.ind = [] → exec .drvReceiveFrame s = .next { s with result := .received none }) ∧
    (∀ f rest, s.q.ind = f :: rest →
      exec .drvReceiveFrame s = .next { s with q.ind := rest, result := .received (some f) }) ∧
    (s.init.phase = .done → s.sig.readyGate = false → exec .drvSetReady s = .next { s with sig.readyGate := true })

/-- R209: each phase of driver init. -/
def Obligations.InitAdvances : Prop :=
  ∀ s : State, TaskFree s →
    (s.init.phase = .notStarted → exec .drvInit s =
      .next { s with line.reset := .low, init := { phase := .resetLow, tmo := armed s 1500 } }) ∧
    (s.init.phase = .resetLow → expired s s.init.tmo = false → exec .drvInit s = .next s) ∧
    (s.init.phase = .resetLow → expired s s.init.tmo = true → exec .drvInit s =
      .next { s with line.reset := .high, init := { phase := .waitInd, tmo := armed s 100 } }) ∧
    (s.init.phase = .waitInd → expired s s.init.tmo = false → exec .drvInit s = .next s) ∧
    (s.init.phase = .waitInd → expired s s.init.tmo = true → s.q.ind = [] →
      exec .drvInit s = .next { s with init.tmo := armed s 100 }) ∧
    (∀ f rest, s.init.phase = .waitInd → expired s s.init.tmo = true → s.q.ind = f :: rest →
      f.command = s.build.code .reset .ind →
      exec .drvInit s = .next { s with q.ind := rest, init.phase := .done, init.tmo.armed := false }) ∧
    (∀ f rest, s.init.phase = .waitInd → expired s s.init.tmo = true → s.q.ind = f :: rest →
      f.command ≠ s.build.code .reset .ind →
      exec .drvInit s = .next { s with q.ind := rest, init.tmo := armed s 100 })

/-- R343: with no task event in progress and no fault, exactly one task event is enabled, by init_phase and the gate; the others are
refused. -/
def Obligations.OneTaskEventEnabled : Prop :=
  ∀ s : State, s.fatal = none → s.task = none →
    (exec .drvInit s = .refused .notEnabled ↔ s.init.phase = .done) ∧
    (exec .drvSetReady s = .refused .notEnabled ↔ ¬ (s.init.phase = .done ∧ s.sig.readyGate = false)) ∧
    (exec .sessionPoll s = .refused .notEnabled ↔ ¬ (s.init.phase = .done ∧ s.sig.readyGate = true))

/-! ## Sequencer -/

/-- R230: SEQ_ENQUEUE of a well-formed request frame: an idle sequencer takes frame and tag; a busy one is fatal, whatever the frame; a
call with the tag Inactive is refused. -/
def Obligations.SeqEnqueueTakesOneRequest : Prop :=
  ∀ (f : Frame) (tag : SenderTag) (s : State), s.fatal = none →
    (frameWf f = true → f.start = 0x02 → tag ≠ .inactive → s.seq.state = .txreqLow → s.seq.tag = .inactive →
      exec (.seqEnqueue f tag) s = .next { s with seq.tag := tag, seq.frame := some f }) ∧
    (tag ≠ .inactive → s.seq.state ≠ .txreqLow ∨ s.seq.tag ≠ .inactive →
      exec (.seqEnqueue f tag) s = .next { s with fatal := some .seqEnqueueBusy }) ∧
    (tag = .inactive → exec (.seqEnqueue f tag) s = .refused .inactiveTag)

/-- R232, and R231 for an inactive tag: SEQ_POLL in TxreqLow clears tx_done, drains q_status, drives the line Low, arms the status timer,
asks for a status byte and moves on; with no active tag it is fatal. -/
def Obligations.SeqPollRequestsLine : Prop :=
  ∀ s : State, s.fatal = none → s.task = none →
    (s.seq.tag = .inactive → exec .seqPoll s = .next { s with fatal := some .seqPollInactive }) ∧
    (s.seq.tag ≠ .inactive → s.seq.state = .txreqLow → exec .seqPoll s =
      .next (answered .wouldBlock { s with
        sig := { s.sig with txDone := false, statusWait := true }, q.status := [], line.txreq := .low,
        seq := { s.seq with state := .waitStatusFrame, tmoStatus := armed s 200 } }))

/-- R233, R234: SEQ_POLL in WaitStatusFrame. The status byte comes first, the timeout only when there is none; a busy modem ends the
exchange; else the frame goes to q_tx and the TX framer is woken. -/
def Obligations.SeqPollTakesStatus : Prop :=
  ∀ s : State, s.fatal = none → s.task = none → s.seq.tag ≠ .inactive → s.seq.state = .waitStatusFrame →
    (s.q.status = [] → expired s s.seq.tmoStatus = false → exec .seqPoll s = .next (answered .wouldBlock s)) ∧
    (s.q.status = [] → expired s s.seq.tmoStatus = true → exec .seqPoll s =
      .next (answered (.fail .txErrNoStatus) (idled { s with line.txreq := .high }))) ∧
    (∀ v rest, s.q.status = v :: rest → v &&& 0x06 ≠ 0 → exec .seqPoll s =
      .next (answered (.fail .txErrBusy) (idled { s with q.status := rest, line.txreq := .high }))) ∧
    (∀ v rest f, s.q.status = v :: rest → v &&& 0x06 = 0 → s.seq.frame = some f → s.q.tx.length < 2 →
      exec .seqPoll s = .next (answered .wouldBlock { s with
        q := { s.q with status := rest, tx := s.q.tx ++ [f] }, sig := { s.sig with txIe := true, txActive := true },
        seq := { s.seq with frame := none, state := .waitTxFrameDone } })) ∧
    (∀ v rest f, s.q.status = v :: rest → v &&& 0x06 = 0 → s.seq.frame = some f → 2 ≤ s.q.tx.length →
      exec .seqPoll s = .next { s with q.status := rest, fatal := some .txQueueFull })

/-- R235, R236: SEQ_POLL waits for tx_done without a timeout, then asks for an ACK; a NAK or the timeout ends the exchange, an ACK arms
the confirmation timer. -/
def Obligations.SeqPollWaitsForAck : Prop :=
  ∀ s : State, s.fatal = none → s.task = none → s.seq.tag ≠ .inactive →
    (s.seq.state = .waitTxFrameDone → s.sig.txDone = false → exec .seqPoll s = .next (answered .wouldBlock s)) ∧
    (s.seq.state = .waitTxFrameDone → s.sig.txDone = true → exec .seqPoll s =
      .next (answered .wouldBlock { s with sig.ackWait := true, seq := { s.seq with tmoAck := armed s 40, state := .waitAck } })) ∧
    (∀ rest, s.seq.state = .waitAck → s.q.ack = .nak :: rest → exec .seqPoll s =
      .next (answered (.fail .txErrNak) (idled { s with q.ack := rest }))) ∧
    (∀ rest, s.seq.state = .waitAck → s.q.ack = .ack :: rest → exec .seqPoll s =
      .next (answered .wouldBlock { s with q.ack := rest, seq := { s.seq with tmoCnf := armed s 4000, state := .waitCnf } })) ∧
    (s.seq.state = .waitAck → s.q.ack = [] → expired s s.seq.tmoAck = true → exec .seqPoll s =
      .next (answered (.fail .txErrAckTmo) (idled s))) ∧
    (s.seq.state = .waitAck → s.q.ack = [] → expired s s.seq.tmoAck = false → exec .seqPoll s =
      .next (answered .wouldBlock s))

/-- R237, R238, R239 with EXPECTED of R100: SEQ_POLL in WaitCnf. The first frame of q_cnf is the confirmation; its code must be the CNF
or ERR code of the tag's family, and a ping's echo must equal what was sent. -/
def Obligations.SeqPollTakesConfirmation : Prop :=
  ∀ s : State, s.fatal = none → s.task = none → s.seq.state = .waitCnf →
    (s.seq.tag ≠ .inactive → s.q.cnf = [] → expired s s.seq.tmoCnf = false →
      exec .seqPoll s = .next (answered .wouldBlock s)) ∧
    (s.seq.tag ≠ .inactive → s.q.cnf = [] → expired s s.seq.tmoCnf = true →
      exec .seqPoll s = .next (answered (.fail .errTimeout) (idled s))) ∧
    (∀ c rest fam, s.q.cnf = c :: rest →
      (s.seq.tag, fam) ∈ [(SenderTag.reset, Family.reset), (.mibWrite, .mibWrite), (.mibErase, .mibErase), (.phyData, .phy),
        (.dlData, .dl)] ∨ (∃ p, s.seq.tag = .ping p ∧ fam = .ping) →
      (c.command ≠ s.build.code fam .cnf → c.command ≠ s.build.code fam .err → exec .seqPoll s =
        .next (answered (.fail .errConfirm) (idled { s with q.cnf := rest }))) ∧
      (c.command = s.build.code fam .cnf ∨ c.command = s.build.code fam .err →
        ((∃ p, s.seq.tag = .ping p ∧ c.payload ≠ p) → exec .seqPoll s =
          .next (answered (.fail .errPing) (idled { s with q.cnf := rest }))) ∧
        ((∀ p, s.seq.tag = .ping p → c.payload = p) → exec .seqPoll s =
          .next (answered (.ready c) (idled { s with q.cnf := rest })))))

/-- R231-R238 in their primitive steps (20_memory.md R72 (b)), in the order of the pseudocode, for every caller and in every state that
interrupt events may have left: what each step of SEQ_POLL does, which one comes next, and what returns to the caller. In TxreqLow
status_wait is set after the line goes Low; at the release the enqueue comes before tx_ie and tx_active; tmo_ack is armed before
ack_wait is set; each wait tries its Dequeue or its signal before the timeout. Writes of registers private to the task context go with
the step before them (log entry 10), and so do the raises (log entry 26). -/
def Obligations.SeqPollPrimitiveSteps : Prop :=
  ∀ (k : Caller) (s : State),
    let goes := fun (p : SeqPoint) (q : SeqPoint) (t : State) => taskStep (.seq k p) s = .next (standing (.seq k q) t)
    let blocks := fun (p : SeqPoint) (t : State) => taskStep (.seq k p) s = .next (pollReturns k .wouldBlock t)
    let finishes := fun (p : SeqPoint) (r : PollResult) (t : State) => taskStep (.seq k p) s = .next (pollReturns k r (idled t))
    -- TxreqLow
    (goes .clearDone .drain { s with sig.txDone := false } ∧
      (∀ v rest, s.q.status = v :: rest → goes .drain .drain { s with q.status := rest }) ∧
      (s.q.status = [] → goes .drain .lineLow s) ∧
      goes .lineLow .armStatus { s with line.txreq := .low } ∧
      goes .armStatus .setStatusWait { s with seq.tmoStatus := armed s 200 } ∧
      blocks .setStatusWait { s with sig.statusWait := true, seq.state := .waitStatusFrame }) ∧
    -- WaitStatusFrame
    ((∀ v rest, s.q.status = v :: rest → v &&& 0x06 ≠ 0 → goes .takeStatus .busyLine { s with q.status := rest }) ∧
      (∀ v rest, s.q.status = v :: rest → v &&& 0x06 = 0 → goes .takeStatus .release { s with q.status := rest }) ∧
      (s.q.status = [] → goes .takeStatus .checkStatus s) ∧
      (expired s s.seq.tmoStatus = true → goes .checkStatus .noStatusLine s) ∧
      (expired s s.seq.tmoStatus = false → blocks .checkStatus s) ∧
      finishes .noStatusLine (.fail .txErrNoStatus) { s with line.txreq := .high } ∧
      finishes .busyLine (.fail .txErrBusy) { s with line.txreq := .high } ∧
      (∀ f, s.seq.frame = some f → s.q.tx.length < 2 →
        goes .release .enableIrq { s with q.tx := s.q.tx ++ [f], seq.frame := none }) ∧
      (∀ f, s.seq.frame = some f → 2 ≤ s.q.tx.length → taskStep (.seq k .release) s = .next (fatalEnd .txQueueFull s)) ∧
      goes .enableIrq .signalActive { s with sig.txIe := true } ∧
      blocks .signalActive { s with sig.txActive := true, seq.state := .waitTxFrameDone }) ∧
    -- WaitTxFrameDone
    ((s.sig.txDone = true → goes .readDone .armAck s) ∧ (s.sig.txDone = false → blocks .readDone s) ∧
      goes .armAck .setAckWait { s with seq.tmoAck := armed s 40 } ∧
      blocks .setAckWait { s with sig.ackWait := true, seq.state := .waitAck }) ∧
    -- WaitAck
    ((∀ rest, s.q.ack = .nak :: rest → finishes .takeAck (.fail .txErrNak) { s with q.ack := rest }) ∧
      (∀ rest, s.q.ack = .ack :: rest → goes .takeAck .armCnf { s with q.ack := rest }) ∧
      (s.q.ack = [] → goes .takeAck .checkAck s) ∧
      blocks .armCnf { s with seq := { s.seq with tmoCnf := armed s 4000, state := .waitCnf } } ∧
      (expired s s.seq.tmoAck = true → finishes .checkAck (.fail .txErrAckTmo) s) ∧
      (expired s s.seq.tmoAck = false → blocks .checkAck s)) ∧
    -- WaitCnf
    ((∀ c rest fam, s.q.cnf = c :: rest →
        (s.seq.tag, fam) ∈ [(SenderTag.reset, Family.reset), (.mibWrite, .mibWrite), (.mibErase, .mibErase), (.phyData, .phy),
          (.dlData, .dl)] ∨ (∃ p, s.seq.tag = .ping p ∧ fam = .ping) →
        (c.command ≠ s.build.code fam .cnf → c.command ≠ s.build.code fam .err →
          finishes .takeCnf (.fail .errConfirm) { s with q.cnf := rest }) ∧
        (c.command = s.build.code fam .cnf ∨ c.command = s.build.code fam .err →
          ((∃ p, s.seq.tag = .ping p ∧ c.payload ≠ p) → finishes .takeCnf (.fail .errPing) { s with q.cnf := rest }) ∧
          ((∀ p, s.seq.tag = .ping p → c.payload = p) → finishes .takeCnf (.ready c) { s with q.cnf := rest }))) ∧
      (s.q.cnf = [] → goes .takeCnf .checkCnf s) ∧
      (expired s s.seq.tmoCnf = true → finishes .checkCnf (.fail .errTimeout) s) ∧
      (expired s s.seq.tmoCnf = false → blocks .checkCnf s))

/-! ## Task events as primitive steps -/

/-- 20_memory.md R72 (b), R315: a task event that stands at a primitive step, in any live state, takes that step and goes on from there,
as long as its budget of the environment's schedule lasts; with no budget left for it, it stays where it stands. The schedule is the
model's (log entry 9). -/
def Obligations.TaskEventsRunPrimitiveSteps : Prop :=
  ∀ (e : Instr) (p : TaskPoint) (s : State), s.fatal = none → s.task = some p →
    (e = .drvInit ∧ ∃ q, p = .init q) ∨ (e = .sessionPoll ∧ ∀ q, p ≠ .init q) →
    (s.env.preempt = [] → exec e s = goesOn e (taskStep p s)) ∧
    (∀ n rest, s.env.preempt = (n + 1) :: rest → exec e s = goesOn e (taskStep p { s with env.preempt := n :: rest })) ∧
    (∀ rest, s.env.preempt = 0 :: rest → exec e s = .next { s with env.preempt := rest })

/-- R260-R264, R270, R271 in their primitive steps (20_memory.md R72 (b)), outside SEQ_POLL: how SESSION_POLL begins, and what each
step of the Leader and of the Follower does in every state that interrupt events may have left. Allocation draws and raises go with the
step before them (log entry 26). -/
def Obligations.SessionPrimitiveSteps : Prop :=
  ∀ s : State,
    (s.fatal = none → s.task = none → s.init.phase = .done → s.sig.readyGate = true →
      exec .sessionPoll s = goesOn .sessionPoll (.next (sessionEnters s))) ∧
    -- Leader: back-off
    (expired s s.ldr.failTmo = false → taskStep (.ldr .checkBackoff) s = .next (ended s)) ∧
    (expired s s.ldr.failTmo = true → taskStep (.ldr .checkBackoff) s = .next (standing (.ldr .disarmBackoff) s)) ∧
    taskStep (.ldr .disarmBackoff) s = .next (leaderEnters { s with ldr.failTmo.armed := false }) ∧
    taskStep (.ldr .armFail) s = .next (ended { s with ldr.failTmo := armed s 100, ldr.state := .dispatch }) ∧
    -- Leader: Dispatch
    (s.build.wf = true → s.seq.state = .txreqLow → s.seq.tag = .inactive →
      (∀ buf rest, s.q.usbOut = buf :: rest → buf.length + 1 ≤ dataLimit s.build → AllocOk s →
        taskStep (.ldr .takeOut) s =
          .next (ended { handedOver (0x01 :: buf) { s with q.usbOut := rest } with ldr.state := .sendData })) ∧
      (∀ buf rest, s.q.usbOut = buf :: rest → buf.length + 1 ≤ dataLimit s.build → ¬ AllocOk s →
        taskStep (.ldr .takeOut) s = .next (fatalEnd .allocFail (afterDraw { s with q.usbOut := rest }))) ∧
      (∀ buf rest, s.q.usbOut = buf :: rest → dataLimit s.build < buf.length + 1 →
        taskStep (.ldr .takeOut) s = .next (standing (.ldr .armFail) { s with q.usbOut := rest })) ∧
      (s.q.usbOut = [] → s.build.twoWay = true → AllocOk s →
        taskStep (.ldr .takeOut) s = .next (ended { handedOver [0x02] s with ldr.state := .sendPing })) ∧
      (s.q.usbOut = [] → s.build.twoWay = true → ¬ AllocOk s →
        taskStep (.ldr .takeOut) s = .next (fatalEnd .allocFail (afterDraw s))) ∧
      (s.q.usbOut = [] → s.build.twoWay = false → taskStep (.ldr .takeOut) s = .next (ended s))) ∧
    -- Leader: SendPing confirmed, WaitPing
    taskStep (.ldr .armPing) s = .next (ended { s with ldr.pingTmo := armed s 500, ldr.state := .waitPing }) ∧
    (expired s s.ldr.pingTmo = true → taskStep (.ldr .checkPing) s = .next (ended { s with ldr.state := .dispatch })) ∧
    (expired s s.ldr.pingTmo = false → taskStep (.ldr .checkPing) s = .next (standing (.ldr .takeInd) s)) ∧
    (s.q.ind = [] → taskStep (.ldr .takeInd) s = .next (ended s)) ∧
    (∀ f rest, s.q.ind = f :: rest → taskStep (.ldr .takeInd) s =
      .next (leaderGoesOn (f.payload.drop s.build.indOffset.val) { s with q.ind := rest })) ∧
    (∀ d, taskStep (.ldr (.putIn d)) s = .next (ended (handedToHost d { s with ldr.state := .dispatch }))) ∧
    -- Follower
    (s.q.ind = [] → taskStep (.flw .takeInd) s = .next (ended s)) ∧
    (∀ f rest, s.q.ind = f :: rest → taskStep (.flw .takeInd) s =
      .next (followerGoesOn (f.payload.drop s.build.indOffset.val) { s with q.ind := rest })) ∧
    (∀ d, taskStep (.flw (.putIn d)) s = .next (ended (handedToHost d s))) ∧
    (s.build.wf = true → s.seq.state = .txreqLow → s.seq.tag = .inactive →
      taskStep (.flw .takeOut) s = .next (ended (followerReplies s)))

/-- R209 in its primitive steps (20_memory.md R72 (b)): how DRV_INIT begins, and what each step does in every state that interrupt
events may have left. -/
def Obligations.InitPrimitiveSteps : Prop :=
  ∀ s : State,
    (s.fatal = none → s.task = none → s.init.phase ≠ .done → exec .drvInit s = goesOn .drvInit (.next (initEnters s))) ∧
    taskStep (.init .lineLow) s = .next (standing (.init .armLow) { s with line.reset := .low }) ∧
    taskStep (.init .armLow) s = .next (ended { s with init := { phase := .resetLow, tmo := armed s 1500 } }) ∧
    (expired s s.init.tmo = false → taskStep (.init .checkLow) s = .next (ended s)) ∧
    (expired s s.init.tmo = true → taskStep (.init .checkLow) s = .next (standing (.init .lineHigh) s)) ∧
    taskStep (.init .lineHigh) s = .next (standing (.init .armPoll) { s with line.reset := .high }) ∧
    taskStep (.init .armPoll) s = .next (ended { s with init := { phase := .waitInd, tmo := armed s 100 } }) ∧
    (expired s s.init.tmo = false → taskStep (.init .checkPoll) s = .next (ended s)) ∧
    (expired s s.init.tmo = true → taskStep (.init .checkPoll) s = .next (standing (.init .takeInd) s)) ∧
    (∀ f rest, s.q.ind = f :: rest → f.command = s.build.code .reset .ind →
      taskStep (.init .takeInd) s = .next (standing (.init .disarm) { s with q.ind := rest })) ∧
    (∀ f rest, s.q.ind = f :: rest → f.command ≠ s.build.code .reset .ind →
      taskStep (.init .takeInd) s = .next (standing (.init .rearm) { s with q.ind := rest })) ∧
    (s.q.ind = [] → taskStep (.init .takeInd) s = .next (standing (.init .rearm) s)) ∧
    taskStep (.init .disarm) s = .next (ended { s with init.phase := .done, init.tmo.armed := false }) ∧
    taskStep (.init .rearm) s = .next (ended { s with init.tmo := armed s 100 })

/-! ## Session -/

/-- R262, R263, R272 with R265: an uninterrupted SESSION_POLL in SendData, SendPing or Send is SEQ_POLL followed by the session's
reaction to its answer. An interrupted one is TaskEventsRunPrimitiveSteps with SeqPollPrimitiveSteps. -/
def Obligations.SessionReactsToPoll : Prop :=
  ∀ s t : State, SessionFree s → exec .seqPoll s = .next t →
    (t.fatal ≠ none →
      (s.build.role = .leader ∧ s.ldr.failTmo.armed = false ∧ (s.ldr.state = .sendData ∨ s.ldr.state = .sendPing)) ∨
        (s.build.role = .follower ∧ s.flw = .send) →
      exec .sessionPoll s = .next t) ∧
    (t.fatal = none → s.build.role = .leader → s.ldr.failTmo.armed = false →
      s.ldr.state = .sendData ∨ s.ldr.state = .sendPing →
      (t.result = .poll .wouldBlock → exec .sessionPoll s = .next { t with result := s.result }) ∧
      (∀ c, t.result = .poll (.ready c) → s.ldr.state = .sendData →
        exec .sessionPoll s = .next { t with result := s.result, ldr.state := .dispatch }) ∧
      (∀ c, t.result = .poll (.ready c) → s.ldr.state = .sendPing →
        exec .sessionPoll s =
          .next { t with result := s.result, ldr := { t.ldr with pingTmo := armed t 500, state := .waitPing } }) ∧
      (∀ e, t.result = .poll (.fail e) → e ∈ [Error.txErrNoStatus, .txErrAckTmo, .txErrBusy, .txErrNak] →
        exec .sessionPoll s =
          .next { t with result := s.result, ldr := { t.ldr with failTmo := armed t 100, state := .dispatch } }) ∧
      (∀ e, t.result = .poll (.fail e) → e ∉ [Error.txErrNoStatus, .txErrAckTmo, .txErrBusy, .txErrNak] →
        exec .sessionPoll s = .next { t with result := s.result, fatal := some .leaderFatalTxError })) ∧
    (t.fatal = none → s.build.role = .follower → s.flw = .send →
      (t.result = .poll .wouldBlock → exec .sessionPoll s = .next { t with result := s.result }) ∧
      (∀ c, t.result = .poll (.ready c) → exec .sessionPoll s = .next { t with result := s.result, flw := .wait }) ∧
      (∀ e, t.result = .poll (.fail e) → e ∈ [Error.txErrNoStatus, .txErrAckTmo] →
        exec .sessionPoll s = .next { t with result := s.result, flw := .wait }) ∧
      (∀ e, t.result = .poll (.fail e) → e ∉ [Error.txErrNoStatus, .txErrAckTmo] →
        exec .sessionPoll s = .next { t with result := s.result, fatal := some .followerFatalTxError }))

/-- R260: while the fail back-off runs, the Leader does nothing; once it has expired, it is disarmed and the poll goes on. -/
def Obligations.LeaderBackoff : Prop :=
  ∀ s : State, SessionFree s → s.build.role = .leader → s.ldr.failTmo.armed = true →
    (expired s s.ldr.failTmo = false → exec .sessionPoll s = .next s) ∧
    (expired s s.ldr.failTmo = true → exec .sessionPoll s = exec .sessionPoll { s with ldr.failTmo.armed := false })

/-- R261, R267: the Leader in Dispatch. Host data go out under a Data header, and are dropped with a back-off when they are too long; with
none waiting, a two-way Leader pings and a one-way Leader stays idle. -/
def Obligations.LeaderDispatches : Prop :=
  ∀ s : State, SessionFree s → s.build.wf = true → s.build.role = .leader → s.ldr.failTmo.armed = false →
    s.ldr.state = .dispatch → s.seq.state = .txreqLow → s.seq.tag = .inactive →
    (∀ buf rest, s.q.usbOut = buf :: rest → buf.length + 1 ≤ dataLimit s.build → AllocOk s → exec .sessionPoll s =
      .next { handedOver (0x01 :: buf) { s with q.usbOut := rest } with ldr.state := .sendData }) ∧
    (∀ buf rest, s.q.usbOut = buf :: rest → dataLimit s.build < buf.length + 1 → exec .sessionPoll s =
      .next { s with q.usbOut := rest, ldr.failTmo := armed s 100 }) ∧
    (∀ buf rest, s.q.usbOut = buf :: rest → buf.length + 1 ≤ dataLimit s.build → ¬ AllocOk s → exec .sessionPoll s =
      .next { afterDraw s with q.usbOut := rest, fatal := some .allocFail }) ∧
    (s.q.usbOut = [] → s.build.twoWay = true → AllocOk s → exec .sessionPoll s =
      .next { handedOver [0x02] s with ldr.state := .sendPing }) ∧
    (s.q.usbOut = [] → s.build.twoWay = true → ¬ AllocOk s → exec .sessionPoll s =
      .next { afterDraw s with fatal := some .allocFail }) ∧
    (s.q.usbOut = [] → s.build.twoWay = false → exec .sessionPoll s = .next s)

/-- R264, R266: the Leader in WaitPing. The timeout comes first; else one frame of q_ind, if there is one, is read by its header, and
ends the wait. -/
def Obligations.LeaderWaitsForPingReply : Prop :=
  ∀ s : State, SessionFree s → s.build.role = .leader → s.ldr.failTmo.armed = false → s.ldr.state = .waitPing →
    (expired s s.ldr.pingTmo = true → exec .sessionPoll s = .next { s with ldr.state := .dispatch }) ∧
    (expired s s.ldr.pingTmo = false → s.q.ind = [] → exec .sessionPoll s = .next s) ∧
    (∀ f rest, expired s s.ldr.pingTmo = false → s.q.ind = f :: rest → exec .sessionPoll s =
      .next (leaderReads (f.payload.drop s.build.indOffset.val) { s with q.ind := rest }))

/-- R270, R271, R266: the Follower in Wait reads at most one frame by its header, and answers a session ping in two-way mode. -/
def Obligations.FollowerWaits : Prop :=
  ∀ s : State, SessionFree s → s.build.wf = true → s.build.role = .follower → s.flw = .wait → s.seq.state = .txreqLow →
    s.seq.tag = .inactive →
    (s.q.ind = [] → exec .sessionPoll s = .next s) ∧
    (∀ f rest, s.q.ind = f :: rest → exec .sessionPoll s =
      .next (followerReads (f.payload.drop s.build.indOffset.val) { s with q.ind := rest }))

/-- R99, R106 with R264 and R270: the header rows, where the session reads headers. A header row is the session's reading of an
application payload that begins so (the model's convention, log entry 15). -/
def Obligations.HeaderRowsAreRead : Prop :=
  ∀ (i : Instr) (app d : Bytes) (h : Byte) (s : State),
    (i, app) ∈ [(Instr.hdrIdle d, 0x00 :: d), (.hdrData d, 0x01 :: d), (.hdrPing d, 0x02 :: d), (.hdrReserved (some h) d, h :: d),
      (.hdrReserved none d, [])] →
    SessionFree s → s.build.wf = true → s.build.indOffset.val + app.length ≤ 255 →
    (s.build.role = .leader → s.ldr.state = .waitPing → exec i s = .next (leaderReads app s)) ∧
    (s.build.role = .follower → s.flw = .wait → s.seq.state = .txreqLow → s.seq.tag = .inactive →
      exec i s = .next (followerReads app s))

/-- R280, R281: the host's buffers enter q_usb_out in order, a full queue dropping them, an empty or over-long one being refused; and
they leave q_usb_in in order. -/
def Obligations.HostQueues : Prop :=
  ∀ (buf : Bytes) (s : State), s.fatal = none →
    (1 ≤ buf.length → buf.length ≤ 255 → s.q.usbOut.length < 32 →
      exec (.hostOutPush buf) s = .next { s with q.usbOut := s.q.usbOut ++ [buf] }) ∧
    (1 ≤ buf.length → buf.length ≤ 255 → 32 ≤ s.q.usbOut.length → exec (.hostOutPush buf) s = .next s) ∧
    (buf = [] ∨ 255 < buf.length → exec (.hostOutPush buf) s = .refused .badBuffer) ∧
    (s.q.usbIn = [] → exec .hostInPop s = .next { s with result := .popped none }) ∧
    (∀ b rest, s.q.usbIn = b :: rest →
      exec .hostInPop s = .next { s with q.usbIn := rest, result := .popped (some b) })

/-! ## Reset and the fatal state -/

/-- R340, R342: RESET, in every state, puts every register at its reset value and keeps the build parameters; of the clock it says
nothing. State.reset has the same values. That a task event in progress ends (`task`), and that the build parameters are kept, is the
model's choice (DESIGN CHOICE, log entry 18), and so are the registers of the role the build does not have, which State holds at their
reset values (DESIGN CHOICE, log entry 24). -/
def Obligations.ResetPutsEverything : Prop :=
  let atReset := fun t : State =>
    t.rx = { state := .firstByte, start := 0, len := 0, cmd := 0, data := [], csumLo := 0,
             tmo := { armed := false, start := 0, duration := 0 } } ∧
    t.sig = { ackWait := false, statusWait := false, readyGate := false, txActive := false, txIe := false, txDone := false,
              pendingReply := none } ∧
    t.line = { txreq := .high, reset := .high } ∧ t.tx = { state := .sendStx, frame := none, idx := 0 } ∧
    t.q = { ind := [], cnf := [], status := [], ack := [], tx := [], usbOut := [], usbIn := [] } ∧
    t.seq = { state := .txreqLow, tag := .inactive, frame := none, tmoStatus := { armed := false, start := 0, duration := 0 },
              tmoAck := { armed := false, start := 0, duration := 0 }, tmoCnf := { armed := false, start := 0, duration := 0 } } ∧
    t.ldr = { state := .dispatch, failTmo := { armed := false, start := 0, duration := 0 },
              pingTmo := { armed := false, start := 0, duration := 0 } } ∧
    t.flw = .wait ∧ t.init = { phase := .notStarted, tmo := { armed := false, start := 0, duration := 0 } } ∧
    t.uart = { thrEmpty := true, wireOut := [] } ∧ t.fatal = none ∧ t.task = none
  atReset State.reset ∧ ∀ s : State, ∃ t, exec .reset s = .next t ∧ atReset t ∧ t.build = s.build

/-- R306: in the fatal state nothing but RESET has a step, and RESET leaves it. -/
def Obligations.FatalStopsAllButReset : Prop :=
  ∀ (s : State) (r : FatalReason), s.fatal = some r →
    (∀ i : Instr, i ≠ .reset → ∃ e, exec i s = .refused e) ∧ ∃ t, exec .reset s = .next t ∧ t.fatal = none

/-- R112, R308: the calls and events the spec refuses, and what the model does with those it leaves to a model: a second consumer of a
queue is Fatal(SPSC_VIOLATION) (log entry 12), a Timeout the build does not have is refused (log entry 24). And the call that no rule
states: SEQ_ENQUEUE of a frame that is no well-formed request, by an idle sequencer, takes the tag and some well-formed request frame,
a free value, and counts it (log entry 23). -/
def Obligations.RefusedAndOpenCalls : Prop :=
  ∀ s : State, s.fatal = none →
    (s.sig.txIe = false ∨ s.uart.thrEmpty = false → exec .txReady s = .refused .notEnabled) ∧
    (∀ f tag, tag ≠ .inactive → frameWf f = false ∨ f.start ≠ 0x02 → s.seq.state = .txreqLow → s.seq.tag = .inactive →
      ∃ g, frameWf g = true ∧ g.start = 0x02 ∧ exec (.seqEnqueue f tag) s =
        .next { s with seq.tag := tag, seq.frame := some g, env.unstated := s.env.unstated + 1 }) ∧
    (∀ (t : TimeoutId) (ms : Word16), s.build.role = .follower → t = .ldrFail ∨ t = .ldrPing →
      exec (.timeoutSet t ms) s = .refused .absentTimeout ∧ exec (.timeoutExpired t) s = .refused .absentTimeout ∧
      exec (.timeoutDisarm t) s = .refused .absentTimeout) ∧
    (s.task ≠ none → exec .seqPoll s = .next { s with fatal := some .spscViolation } ∧
      exec .drvReceiveFrame s = .next { s with fatal := some .spscViolation })

/-! ## Invariants -/

/-- Every step keeps the well-formedness of the state (20_memory.md R65, 10_state.md R22, R36 and R46 (b)-(d), with what a task event
in progress adds) and the build parameters. For a SEQ_ENQUEUE of no well-formed request this rests on what the model stores (log entry
23). -/
def Obligations.WellFormedStateKept : Prop :=
  ∀ s t : State, WellFormedState s → step s = .next t → WellFormedState t ∧ t.build = s.build

/-- The reset state meets every invariant stated here (10_state.md R46, 70_reset_and_hazards.md R340). -/
def Obligations.InvariantsAtReset : Prop :=
  WellFormedState State.reset ∧ IrqImpliesActive State.reset ∧ TimerArmedInFrames State.reset ∧
  SessionCoherent State.reset ∧ StatusBounded State.reset ∧ AckBounded State.reset ∧ OneFrameInFlight State.reset

/-- No step of a well-formed state ends in a fault of the model: each of the three guards is unreachable (10_state.md R46 (d),
43_tx_framer.md R185, 45_sequencer.md R234; log entry 19). -/
def Obligations.NoGuardFault : Prop :=
  ∀ (s : State) (r : Fault), WellFormedState s → step s ≠ .fault r

/-- R46 (a): every step keeps "tx_ie implies tx_active", at the granularity of primitive steps, a DESIGN CHOICE (log entry 20); with no
task event in progress, R46 (a) holds as it is written. -/
def Obligations.IrqImpliesActiveKept : Prop :=
  ∀ s t : State, IrqImpliesActive s → step s = .next t →
    IrqImpliesActive t ∧ (t.task = none → t.sig.txIe = true → t.sig.txActive = true)

/-- R46 (e), (f): every step but a direct Timeout operation on rx_tmo keeps "the inter-character timer is armed exactly inside a
frame". -/
def Obligations.TimerArmedInFramesKept : Prop :=
  ∀ s t : State, TimerArmedInFrames s →
    (∀ i u, fetch s = .instr i u → (∀ ms, i ≠ .timeoutSet .rx ms) ∧ i ≠ .timeoutDisarm .rx) →
    step s = .next t → TimerArmedInFrames t

/-- R268, R273: every step but a direct call of the sequencer keeps the session's invariant, and so never raises SEQ_ENQUEUE_BUSY or
SEQ_POLL_INACTIVE. -/
def Obligations.SessionInvariantKept : Prop :=
  ∀ s t : State, SeqCoherent s → SessionCoherent s → s.fatal ≠ some .seqEnqueueBusy → s.fatal ≠ some .seqPollInactive →
    (∀ i u, fetch s = .instr i u → noDirectSeqCall i = true) → step s = .next t →
    SessionCoherent t ∧ t.fatal ≠ some .seqEnqueueBusy ∧ t.fatal ≠ some .seqPollInactive

/-- R363, R352: every step keeps the bounds on q_status and q_ack, and so never raises STATUS_QUEUE_FULL or ACK_QUEUE_FULL. -/
def Obligations.StatusAndAckStayBounded : Prop :=
  ∀ s t : State, SeqCoherent s → StatusBounded s → AckBounded s → s.fatal ≠ some .statusQueueFull →
    s.fatal ≠ some .ackQueueFull → step s = .next t →
    StatusBounded t ∧ AckBounded t ∧ t.fatal ≠ some .statusQueueFull ∧ t.fatal ≠ some .ackQueueFull

/-- R241, and R234 on TX_QUEUE_FULL: every step keeps at most one request frame in flight, and so never raises it. -/
def Obligations.OneFrameInFlightKept : Prop :=
  ∀ s t : State, SeqCoherent s → TxCoherent s.tx → OneFrameInFlight s → s.fatal ≠ some .txQueueFull → step s = .next t →
    OneFrameInFlight t ∧ t.fatal ≠ some .txQueueFull

/-- R315, 20_memory.md R72 (b), for SESSION_POLL and DRV_INIT. An event that is not interrupted ends, waiting for nothing (60_exceptions.md
R320, R321). One that the environment interrupts after n primitive steps, with no other event before it is resumed, ends as if
uninterrupted. The events that may come in between leave the point it stands at, its local values with it, the registers private to the
task context and the schedule; what it then does in the state they left is TaskEventsRunPrimitiveSteps. -/
def Obligations.PreemptedTaskEventResumes : Prop :=
  (∀ (e : Instr) (n : Nat) (s : State), TaskFree s → e = .sessionPoll ∨ e = .drvInit →
    (∀ t, exec e s = .next t → t.task = none) ∧
    (∀ t, exec e { s with env.preempt := [n] } = .next t → t.task ≠ none → t.fatal = none → exec e t = exec e s)) ∧
  (∀ (i : Instr) (s t : State), interrupts s.build i → exec i s = .next t →
    t.task = s.task ∧ t.env.preempt = s.env.preempt ∧ t.env.trace = s.env.trace ∧ t.build = s.build ∧ t.seq = s.seq ∧
      t.ldr = s.ldr ∧ t.flw = s.flw ∧ t.init = s.init)
end

