-- ==== Sys2Proof/Laws/State.lean ====
section
/-! SUPPORT. One lemma per field per update of State, each true by rfl, so that no proof unfolds a record update. -/
namespace Sys2Proof.Machine

variable (s : State)

/-! ### raise -/
@[simp] theorem raise_build (r : FatalReason) : (raise r s).build = s.build := rfl
@[simp] theorem raise_rx (r : FatalReason) : (raise r s).rx = s.rx := rfl
@[simp] theorem raise_sig (r : FatalReason) : (raise r s).sig = s.sig := rfl
@[simp] theorem raise_line (r : FatalReason) : (raise r s).line = s.line := rfl
@[simp] theorem raise_tx (r : FatalReason) : (raise r s).tx = s.tx := rfl
@[simp] theorem raise_q (r : FatalReason) : (raise r s).q = s.q := rfl
@[simp] theorem raise_seq (r : FatalReason) : (raise r s).seq = s.seq := rfl
@[simp] theorem raise_ldr (r : FatalReason) : (raise r s).ldr = s.ldr := rfl
@[simp] theorem raise_flw (r : FatalReason) : (raise r s).flw = s.flw := rfl
@[simp] theorem raise_init (r : FatalReason) : (raise r s).init = s.init := rfl
@[simp] theorem raise_uart (r : FatalReason) : (raise r s).uart = s.uart := rfl
@[simp] theorem raise_clock (r : FatalReason) : (raise r s).clock = s.clock := rfl
@[simp] theorem raise_fatal (r : FatalReason) : (raise r s).fatal = some r := rfl
@[simp] theorem raise_task (r : FatalReason) : (raise r s).task = s.task := rfl
@[simp] theorem raise_result (r : FatalReason) : (raise r s).result = s.result := rfl
@[simp] theorem raise_env (r : FatalReason) : (raise r s).env = s.env := rfl

/-! ### goto -/
@[simp] theorem goto_build (p : TaskPoint) : (goto p s).build = s.build := rfl
@[simp] theorem goto_rx (p : TaskPoint) : (goto p s).rx = s.rx := rfl
@[simp] theorem goto_sig (p : TaskPoint) : (goto p s).sig = s.sig := rfl
@[simp] theorem goto_line (p : TaskPoint) : (goto p s).line = s.line := rfl
@[simp] theorem goto_tx (p : TaskPoint) : (goto p s).tx = s.tx := rfl
@[simp] theorem goto_q (p : TaskPoint) : (goto p s).q = s.q := rfl
@[simp] theorem goto_seq (p : TaskPoint) : (goto p s).seq = s.seq := rfl
@[simp] theorem goto_ldr (p : TaskPoint) : (goto p s).ldr = s.ldr := rfl
@[simp] theorem goto_flw (p : TaskPoint) : (goto p s).flw = s.flw := rfl
@[simp] theorem goto_init (p : TaskPoint) : (goto p s).init = s.init := rfl
@[simp] theorem goto_uart (p : TaskPoint) : (goto p s).uart = s.uart := rfl
@[simp] theorem goto_clock (p : TaskPoint) : (goto p s).clock = s.clock := rfl
@[simp] theorem goto_fatal (p : TaskPoint) : (goto p s).fatal = s.fatal := rfl
@[simp] theorem goto_task (p : TaskPoint) : (goto p s).task = some p := rfl
@[simp] theorem goto_result (p : TaskPoint) : (goto p s).result = s.result := rfl
@[simp] theorem goto_env (p : TaskPoint) : (goto p s).env = s.env := rfl

/-! ### endTask -/
@[simp] theorem endTask_build : (endTask s).build = s.build := rfl
@[simp] theorem endTask_rx : (endTask s).rx = s.rx := rfl
@[simp] theorem endTask_sig : (endTask s).sig = s.sig := rfl
@[simp] theorem endTask_line : (endTask s).line = s.line := rfl
@[simp] theorem endTask_tx : (endTask s).tx = s.tx := rfl
@[simp] theorem endTask_q : (endTask s).q = s.q := rfl
@[simp] theorem endTask_seq : (endTask s).seq = s.seq := rfl
@[simp] theorem endTask_ldr : (endTask s).ldr = s.ldr := rfl
@[simp] theorem endTask_flw : (endTask s).flw = s.flw := rfl
@[simp] theorem endTask_init : (endTask s).init = s.init := rfl
@[simp] theorem endTask_uart : (endTask s).uart = s.uart := rfl
@[simp] theorem endTask_clock : (endTask s).clock = s.clock := rfl
@[simp] theorem endTask_fatal : (endTask s).fatal = s.fatal := rfl
@[simp] theorem endTask_task : (endTask s).task = none := rfl
@[simp] theorem endTask_result : (endTask s).result = s.result := rfl
@[simp] theorem endTask_env : (endTask s).env = s.env := rfl

/-! ### raiseInTask -/
@[simp] theorem raiseInTask_build (r : FatalReason) : (raiseInTask r s).build = s.build := rfl
@[simp] theorem raiseInTask_rx (r : FatalReason) : (raiseInTask r s).rx = s.rx := rfl
@[simp] theorem raiseInTask_sig (r : FatalReason) : (raiseInTask r s).sig = s.sig := rfl
@[simp] theorem raiseInTask_line (r : FatalReason) : (raiseInTask r s).line = s.line := rfl
@[simp] theorem raiseInTask_tx (r : FatalReason) : (raiseInTask r s).tx = s.tx := rfl
@[simp] theorem raiseInTask_q (r : FatalReason) : (raiseInTask r s).q = s.q := rfl
@[simp] theorem raiseInTask_seq (r : FatalReason) : (raiseInTask r s).seq = s.seq := rfl
@[simp] theorem raiseInTask_ldr (r : FatalReason) : (raiseInTask r s).ldr = s.ldr := rfl
@[simp] theorem raiseInTask_flw (r : FatalReason) : (raiseInTask r s).flw = s.flw := rfl
@[simp] theorem raiseInTask_init (r : FatalReason) : (raiseInTask r s).init = s.init := rfl
@[simp] theorem raiseInTask_uart (r : FatalReason) : (raiseInTask r s).uart = s.uart := rfl
@[simp] theorem raiseInTask_clock (r : FatalReason) : (raiseInTask r s).clock = s.clock := rfl
@[simp] theorem raiseInTask_fatal (r : FatalReason) : (raiseInTask r s).fatal = some r := rfl
@[simp] theorem raiseInTask_task (r : FatalReason) : (raiseInTask r s).task = none := rfl
@[simp] theorem raiseInTask_result (r : FatalReason) : (raiseInTask r s).result = s.result := rfl
@[simp] theorem raiseInTask_env (r : FatalReason) : (raiseInTask r s).env = s.env := rfl

/-! ### setTxreq -/
@[simp] theorem setTxreq_build (l : Level) : (setTxreq l s).build = s.build := rfl
@[simp] theorem setTxreq_rx (l : Level) : (setTxreq l s).rx = s.rx := rfl
@[simp] theorem setTxreq_sig (l : Level) : (setTxreq l s).sig = s.sig := rfl
@[simp] theorem setTxreq_line (l : Level) : (setTxreq l s).line = { s.line with txreq := l } := rfl
@[simp] theorem setTxreq_tx (l : Level) : (setTxreq l s).tx = s.tx := rfl
@[simp] theorem setTxreq_q (l : Level) : (setTxreq l s).q = s.q := rfl
@[simp] theorem setTxreq_seq (l : Level) : (setTxreq l s).seq = s.seq := rfl
@[simp] theorem setTxreq_ldr (l : Level) : (setTxreq l s).ldr = s.ldr := rfl
@[simp] theorem setTxreq_flw (l : Level) : (setTxreq l s).flw = s.flw := rfl
@[simp] theorem setTxreq_init (l : Level) : (setTxreq l s).init = s.init := rfl
@[simp] theorem setTxreq_uart (l : Level) : (setTxreq l s).uart = s.uart := rfl
@[simp] theorem setTxreq_clock (l : Level) : (setTxreq l s).clock = s.clock := rfl
@[simp] theorem setTxreq_fatal (l : Level) : (setTxreq l s).fatal = s.fatal := rfl
@[simp] theorem setTxreq_task (l : Level) : (setTxreq l s).task = s.task := rfl
@[simp] theorem setTxreq_result (l : Level) : (setTxreq l s).result = s.result := rfl
@[simp] theorem setTxreq_env (l : Level) : (setTxreq l s).env = s.env := rfl

/-! ### setResetLine -/
@[simp] theorem setResetLine_build (l : Level) : (setResetLine l s).build = s.build := rfl
@[simp] theorem setResetLine_rx (l : Level) : (setResetLine l s).rx = s.rx := rfl
@[simp] theorem setResetLine_sig (l : Level) : (setResetLine l s).sig = s.sig := rfl
@[simp] theorem setResetLine_line (l : Level) : (setResetLine l s).line = { s.line with reset := l } := rfl
@[simp] theorem setResetLine_tx (l : Level) : (setResetLine l s).tx = s.tx := rfl
@[simp] theorem setResetLine_q (l : Level) : (setResetLine l s).q = s.q := rfl
@[simp] theorem setResetLine_seq (l : Level) : (setResetLine l s).seq = s.seq := rfl
@[simp] theorem setResetLine_ldr (l : Level) : (setResetLine l s).ldr = s.ldr := rfl
@[simp] theorem setResetLine_flw (l : Level) : (setResetLine l s).flw = s.flw := rfl
@[simp] theorem setResetLine_init (l : Level) : (setResetLine l s).init = s.init := rfl
@[simp] theorem setResetLine_uart (l : Level) : (setResetLine l s).uart = s.uart := rfl
@[simp] theorem setResetLine_clock (l : Level) : (setResetLine l s).clock = s.clock := rfl
@[simp] theorem setResetLine_fatal (l : Level) : (setResetLine l s).fatal = s.fatal := rfl
@[simp] theorem setResetLine_task (l : Level) : (setResetLine l s).task = s.task := rfl
@[simp] theorem setResetLine_result (l : Level) : (setResetLine l s).result = s.result := rfl
@[simp] theorem setResetLine_env (l : Level) : (setResetLine l s).env = s.env := rfl

/-! ### wireTx -/
@[simp] theorem wireTx_build (b : Byte) : (wireTx b s).build = s.build := rfl
@[simp] theorem wireTx_rx (b : Byte) : (wireTx b s).rx = s.rx := rfl
@[simp] theorem wireTx_sig (b : Byte) : (wireTx b s).sig = s.sig := rfl
@[simp] theorem wireTx_line (b : Byte) : (wireTx b s).line = s.line := rfl
@[simp] theorem wireTx_tx (b : Byte) : (wireTx b s).tx = s.tx := rfl
@[simp] theorem wireTx_q (b : Byte) : (wireTx b s).q = s.q := rfl
@[simp] theorem wireTx_seq (b : Byte) : (wireTx b s).seq = s.seq := rfl
@[simp] theorem wireTx_ldr (b : Byte) : (wireTx b s).ldr = s.ldr := rfl
@[simp] theorem wireTx_flw (b : Byte) : (wireTx b s).flw = s.flw := rfl
@[simp] theorem wireTx_init (b : Byte) : (wireTx b s).init = s.init := rfl
@[simp] theorem wireTx_uart (b : Byte) : (wireTx b s).uart = { thrEmpty := false, wireOut := s.uart.wireOut ++ [b] } := rfl
@[simp] theorem wireTx_clock (b : Byte) : (wireTx b s).clock = s.clock := rfl
@[simp] theorem wireTx_fatal (b : Byte) : (wireTx b s).fatal = s.fatal := rfl
@[simp] theorem wireTx_task (b : Byte) : (wireTx b s).task = s.task := rfl
@[simp] theorem wireTx_result (b : Byte) : (wireTx b s).result = s.result := rfl
@[simp] theorem wireTx_env (b : Byte) : (wireTx b s).env = s.env := rfl

/-! ### armReply -/
@[simp] theorem armReply_build (r : Reply) : (armReply r s).build = s.build := rfl
@[simp] theorem armReply_rx (r : Reply) : (armReply r s).rx = s.rx := rfl
@[simp] theorem armReply_sig (r : Reply) : (armReply r s).sig = { s.sig with pendingReply := some r, txActive := true, txIe := true } := rfl
@[simp] theorem armReply_line (r : Reply) : (armReply r s).line = s.line := rfl
@[simp] theorem armReply_tx (r : Reply) : (armReply r s).tx = s.tx := rfl
@[simp] theorem armReply_q (r : Reply) : (armReply r s).q = s.q := rfl
@[simp] theorem armReply_seq (r : Reply) : (armReply r s).seq = s.seq := rfl
@[simp] theorem armReply_ldr (r : Reply) : (armReply r s).ldr = s.ldr := rfl
@[simp] theorem armReply_flw (r : Reply) : (armReply r s).flw = s.flw := rfl
@[simp] theorem armReply_init (r : Reply) : (armReply r s).init = s.init := rfl
@[simp] theorem armReply_uart (r : Reply) : (armReply r s).uart = s.uart := rfl
@[simp] theorem armReply_clock (r : Reply) : (armReply r s).clock = s.clock := rfl
@[simp] theorem armReply_fatal (r : Reply) : (armReply r s).fatal = s.fatal := rfl
@[simp] theorem armReply_task (r : Reply) : (armReply r s).task = s.task := rfl
@[simp] theorem armReply_result (r : Reply) : (armReply r s).result = s.result := rfl
@[simp] theorem armReply_env (r : Reply) : (armReply r s).env = s.env := rfl

/-! ### rxDesync -/
@[simp] theorem rxDesync_build : (rxDesync s).build = s.build := rfl
@[simp] theorem rxDesync_rx : (rxDesync s).rx = s.rx := rfl
@[simp] theorem rxDesync_sig : (rxDesync s).sig = { s.sig with ackWait := false, statusWait := false } := rfl
@[simp] theorem rxDesync_line : (rxDesync s).line = s.line := rfl
@[simp] theorem rxDesync_tx : (rxDesync s).tx = s.tx := rfl
@[simp] theorem rxDesync_q : (rxDesync s).q = s.q := rfl
@[simp] theorem rxDesync_seq : (rxDesync s).seq = s.seq := rfl
@[simp] theorem rxDesync_ldr : (rxDesync s).ldr = s.ldr := rfl
@[simp] theorem rxDesync_flw : (rxDesync s).flw = s.flw := rfl
@[simp] theorem rxDesync_init : (rxDesync s).init = s.init := rfl
@[simp] theorem rxDesync_uart : (rxDesync s).uart = s.uart := rfl
@[simp] theorem rxDesync_clock : (rxDesync s).clock = s.clock := rfl
@[simp] theorem rxDesync_fatal : (rxDesync s).fatal = s.fatal := rfl
@[simp] theorem rxDesync_task : (rxDesync s).task = s.task := rfl
@[simp] theorem rxDesync_result : (rxDesync s).result = s.result := rfl
@[simp] theorem rxDesync_env : (rxDesync s).env = s.env := rfl

/-! ### txFinish -/
@[simp] theorem txFinish_build : (txFinish s).build = s.build := rfl
@[simp] theorem txFinish_rx : (txFinish s).rx = s.rx := rfl
@[simp] theorem txFinish_sig : (txFinish s).sig = { s.sig with txIe := false, txActive := false, txDone := true } := rfl
@[simp] theorem txFinish_line : (txFinish s).line = s.line := rfl
@[simp] theorem txFinish_tx : (txFinish s).tx = { state := .sendStx, frame := none, idx := 0 } := rfl
@[simp] theorem txFinish_q : (txFinish s).q = s.q := rfl
@[simp] theorem txFinish_seq : (txFinish s).seq = s.seq := rfl
@[simp] theorem txFinish_ldr : (txFinish s).ldr = s.ldr := rfl
@[simp] theorem txFinish_flw : (txFinish s).flw = s.flw := rfl
@[simp] theorem txFinish_init : (txFinish s).init = s.init := rfl
@[simp] theorem txFinish_uart : (txFinish s).uart = s.uart := rfl
@[simp] theorem txFinish_clock : (txFinish s).clock = s.clock := rfl
@[simp] theorem txFinish_fatal : (txFinish s).fatal = s.fatal := rfl
@[simp] theorem txFinish_task : (txFinish s).task = s.task := rfl
@[simp] theorem txFinish_result : (txFinish s).result = s.result := rfl
@[simp] theorem txFinish_env : (txFinish s).env = s.env := rfl

/-! ### seqToIdle -/
@[simp] theorem seqToIdle_build : (seqToIdle s).build = s.build := rfl
@[simp] theorem seqToIdle_rx : (seqToIdle s).rx = s.rx := rfl
@[simp] theorem seqToIdle_sig : (seqToIdle s).sig = s.sig := rfl
@[simp] theorem seqToIdle_line : (seqToIdle s).line = s.line := rfl
@[simp] theorem seqToIdle_tx : (seqToIdle s).tx = s.tx := rfl
@[simp] theorem seqToIdle_q : (seqToIdle s).q = s.q := rfl
@[simp] theorem seqToIdle_seq : (seqToIdle s).seq = { s.seq with state := .txreqLow, tag := .inactive, frame := none } := rfl
@[simp] theorem seqToIdle_ldr : (seqToIdle s).ldr = s.ldr := rfl
@[simp] theorem seqToIdle_flw : (seqToIdle s).flw = s.flw := rfl
@[simp] theorem seqToIdle_init : (seqToIdle s).init = s.init := rfl
@[simp] theorem seqToIdle_uart : (seqToIdle s).uart = s.uart := rfl
@[simp] theorem seqToIdle_clock : (seqToIdle s).clock = s.clock := rfl
@[simp] theorem seqToIdle_fatal : (seqToIdle s).fatal = s.fatal := rfl
@[simp] theorem seqToIdle_task : (seqToIdle s).task = s.task := rfl
@[simp] theorem seqToIdle_result : (seqToIdle s).result = s.result := rfl
@[simp] theorem seqToIdle_env : (seqToIdle s).env = s.env := rfl

/-! ### ldrToDispatch -/
@[simp] theorem ldrToDispatch_build : (ldrToDispatch s).build = s.build := rfl
@[simp] theorem ldrToDispatch_rx : (ldrToDispatch s).rx = s.rx := rfl
@[simp] theorem ldrToDispatch_sig : (ldrToDispatch s).sig = s.sig := rfl
@[simp] theorem ldrToDispatch_line : (ldrToDispatch s).line = s.line := rfl
@[simp] theorem ldrToDispatch_tx : (ldrToDispatch s).tx = s.tx := rfl
@[simp] theorem ldrToDispatch_q : (ldrToDispatch s).q = s.q := rfl
@[simp] theorem ldrToDispatch_seq : (ldrToDispatch s).seq = s.seq := rfl
@[simp] theorem ldrToDispatch_ldr : (ldrToDispatch s).ldr = { s.ldr with state := .dispatch } := rfl
@[simp] theorem ldrToDispatch_flw : (ldrToDispatch s).flw = s.flw := rfl
@[simp] theorem ldrToDispatch_init : (ldrToDispatch s).init = s.init := rfl
@[simp] theorem ldrToDispatch_uart : (ldrToDispatch s).uart = s.uart := rfl
@[simp] theorem ldrToDispatch_clock : (ldrToDispatch s).clock = s.clock := rfl
@[simp] theorem ldrToDispatch_fatal : (ldrToDispatch s).fatal = s.fatal := rfl
@[simp] theorem ldrToDispatch_task : (ldrToDispatch s).task = none := rfl
@[simp] theorem ldrToDispatch_result : (ldrToDispatch s).result = s.result := rfl
@[simp] theorem ldrToDispatch_env : (ldrToDispatch s).env = s.env := rfl

/-! ### schedule -/
@[simp] theorem schedule_build (slot : Slot) : (schedule slot s).build = s.build := rfl
@[simp] theorem schedule_rx (slot : Slot) : (schedule slot s).rx = s.rx := rfl
@[simp] theorem schedule_sig (slot : Slot) : (schedule slot s).sig = s.sig := rfl
@[simp] theorem schedule_line (slot : Slot) : (schedule slot s).line = s.line := rfl
@[simp] theorem schedule_tx (slot : Slot) : (schedule slot s).tx = s.tx := rfl
@[simp] theorem schedule_q (slot : Slot) : (schedule slot s).q = s.q := rfl
@[simp] theorem schedule_seq (slot : Slot) : (schedule slot s).seq = s.seq := rfl
@[simp] theorem schedule_ldr (slot : Slot) : (schedule slot s).ldr = s.ldr := rfl
@[simp] theorem schedule_flw (slot : Slot) : (schedule slot s).flw = s.flw := rfl
@[simp] theorem schedule_init (slot : Slot) : (schedule slot s).init = s.init := rfl
@[simp] theorem schedule_uart (slot : Slot) : (schedule slot s).uart = s.uart := rfl
@[simp] theorem schedule_clock (slot : Slot) : (schedule slot s).clock = s.clock := rfl
@[simp] theorem schedule_fatal (slot : Slot) : (schedule slot s).fatal = s.fatal := rfl
@[simp] theorem schedule_task (slot : Slot) : (schedule slot s).task = s.task := rfl
@[simp] theorem schedule_result (slot : Slot) : (schedule slot s).result = s.result := rfl
@[simp] theorem schedule_env (slot : Slot) : (schedule slot s).env = { s.env with trace := slot :: s.env.trace } := rfl

end Sys2Proof.Machine
end

