-- ==== Sys2Proof/Laws/Ops.lean ====
section
/-! SUPPORT. What each shared operation can do, said once: a prover cites these and does not unfold the operation. -/
namespace Sys2Proof.Machine

/-! ## ifLive -/

@[simp] theorem ifLive_of_live {s : State} (h : s.fatal = none) (o : Out) : ifLive s o = o := by
  simp [ifLive, h]

@[simp] theorem ifLive_of_fatal {s : State} {r : FatalReason} (h : s.fatal = some r) (o : Out) :
    ifLive s o = .refused .notEnabled := by
  simp [ifLive, h]

theorem ifLive_next {s t : State} {o : Out} (h : ifLive s o = .next t) : s.fatal = none ∧ o = .next t := by
  unfold ifLive at h
  split at h
  · exact ⟨‹_›, h⟩
  · cases h

/-! ## Queues -/

theorem enqueue_of_room {α : Type} {cap : Nat} {q : List α} (v : α) (h : q.length < cap) :
    enqueue cap q v = some (q ++ [v]) := by simp [enqueue, h]

theorem enqueue_of_full {α : Type} {cap : Nat} {q : List α} (v : α) (h : cap ≤ q.length) : enqueue cap q v = none := by
  simp [enqueue, Nat.not_lt.mpr h]

theorem enqueue_some {α : Type} {cap : Nat} {q q' : List α} {v : α} (h : enqueue cap q v = some q') :
    q.length < cap ∧ q' = q ++ [v] := by
  unfold enqueue at h
  split at h
  · exact ⟨‹_›, (Option.some.inj h).symm⟩
  · cases h

/-- An accepted element never takes a queue past its capacity. -/
theorem enqueue_length_le {α : Type} {cap : Nat} {q q' : List α} {v : α} (h : enqueue cap q v = some q') :
    q'.length ≤ cap := by
  obtain ⟨hlt, rfl⟩ := enqueue_some h
  simpa using hlt

@[simp] theorem dequeue_nil {α : Type} : dequeue ([] : List α) = none := rfl

@[simp] theorem dequeue_cons {α : Type} (v : α) (q : List α) : dequeue (v :: q) = some (v, q) := rfl

theorem dequeue_some {α : Type} {q rest : List α} {v : α} (h : dequeue q = some (v, rest)) : q = v :: rest := by
  cases q with
  | nil => cases h
  | cons w q => cases h; rfl

theorem enqueueInd_cases (f : Frame) (s : State) :
    (s.q.ind.length < Config.capInd ∧ enqueueInd f s = { s with q := { s.q with ind := s.q.ind ++ [f] } }) ∨
    (Config.capInd ≤ s.q.ind.length ∧ enqueueInd f s = raise .indQueueFull s) := by
  by_cases h : s.q.ind.length < Config.capInd
  · exact .inl ⟨h, by simp [enqueueInd, enqueue_of_room f h]⟩
  · exact .inr ⟨Nat.not_lt.mp h, by simp [enqueueInd, enqueue_of_full f (Nat.not_lt.mp h)]⟩

theorem enqueueCnf_cases (f : Frame) (s : State) :
    (s.q.cnf.length < Config.capCnf ∧ enqueueCnf f s = { s with q := { s.q with cnf := s.q.cnf ++ [f] } }) ∨
    (Config.capCnf ≤ s.q.cnf.length ∧ enqueueCnf f s = raise .cnfQueueFull s) := by
  by_cases h : s.q.cnf.length < Config.capCnf
  · exact .inl ⟨h, by simp [enqueueCnf, enqueue_of_room f h]⟩
  · exact .inr ⟨Nat.not_lt.mp h, by simp [enqueueCnf, enqueue_of_full f (Nat.not_lt.mp h)]⟩

theorem enqueueStatus_cases (b : Byte) (s : State) :
    (s.q.status.length < Config.capStatus ∧
      enqueueStatus b s = { s with q := { s.q with status := s.q.status ++ [b] } }) ∨
    (Config.capStatus ≤ s.q.status.length ∧ enqueueStatus b s = raise .statusQueueFull s) := by
  by_cases h : s.q.status.length < Config.capStatus
  · exact .inl ⟨h, by simp [enqueueStatus, enqueue_of_room b h]⟩
  · exact .inr ⟨Nat.not_lt.mp h, by simp [enqueueStatus, enqueue_of_full b (Nat.not_lt.mp h)]⟩

theorem enqueueAck_cases (r : Reply) (s : State) :
    (s.q.ack.length < Config.capAck ∧ enqueueAck r s = { s with q := { s.q with ack := s.q.ack ++ [r] } }) ∨
    (Config.capAck ≤ s.q.ack.length ∧ enqueueAck r s = raise .ackQueueFull s) := by
  by_cases h : s.q.ack.length < Config.capAck
  · exact .inl ⟨h, by simp [enqueueAck, enqueue_of_room r h]⟩
  · exact .inr ⟨Nat.not_lt.mp h, by simp [enqueueAck, enqueue_of_full r (Nat.not_lt.mp h)]⟩

theorem enqueueUsbOut_cases (b : Bytes) (s : State) :
    (s.q.usbOut.length < Config.capUsbOut ∧
      enqueueUsbOut b s = { s with q := { s.q with usbOut := s.q.usbOut ++ [b] } }) ∨
    (Config.capUsbOut ≤ s.q.usbOut.length ∧ enqueueUsbOut b s = s) := by
  by_cases h : s.q.usbOut.length < Config.capUsbOut
  · exact .inl ⟨h, by simp [enqueueUsbOut, enqueue_of_room b h]⟩
  · exact .inr ⟨Nat.not_lt.mp h, by simp [enqueueUsbOut, enqueue_of_full b (Nat.not_lt.mp h)]⟩

theorem enqueueUsbIn_cases (b : Bytes) (s : State) :
    (s.q.usbIn.length < Config.capUsbIn ∧
      enqueueUsbIn b s = { s with q := { s.q with usbIn := s.q.usbIn ++ [b] } }) ∨
    (Config.capUsbIn ≤ s.q.usbIn.length ∧ enqueueUsbIn b s = s) := by
  by_cases h : s.q.usbIn.length < Config.capUsbIn
  · exact .inl ⟨h, by simp [enqueueUsbIn, enqueue_of_room b h]⟩
  · exact .inr ⟨Nat.not_lt.mp h, by simp [enqueueUsbIn, enqueue_of_full b (Nat.not_lt.mp h)]⟩

/-! ## Timeouts and the allocator -/

@[simp] theorem expired_of_unarmed {t : Timeout} (s : State) (h : t.armed = false) : expired s t = false := by
  simp [expired, h]

/-- A Timeout that was just set with a duration of at least one tick has not expired. -/
theorem not_expired_of_armed_now (s s' : State) (ms : Nat) (hc : s'.clock = s.clock)
    (h : ticks s.build.tickRate ms ≠ 0) : expired s' (armed s ms) = false := by
  simp only [expired, armed, hc, BitVec.sub_self, Bool.true_and, decide_eq_false_iff_not, BitVec.not_le]
  bv_omega

/-- An allocation draw takes at most one answer off the schedule and changes nothing else. -/
theorem drawAlloc_eq (s : State) :
    drawAlloc s = (s.env.alloc.head?.getD true, { s with env := { s.env with alloc := s.env.alloc.tail } }) := by
  obtain ⟨_, _, _, _, _, _, _, _, _, _, _, _, _, _, _, ⟨_, _, alloc, _⟩⟩ := s
  cases alloc <;> rfl

/-! ## Frames -/

theorem frameNew_some {start length command : Byte} {payload : Bytes} {f : Frame}
    (h : frameNew start length command payload = some f) :
    f = { start := start, length := length, command := command, payload := payload,
          checksum := checksumOf command length payload } ∧ frameWf f = true := by
  unfold frameNew at h
  split at h
  · rename_i hc
    cases h
    simp only [Bool.and_eq_true, decide_eq_true_eq] at hc
    exact ⟨rfl, by simp [frameWf, hc.1.1, hc.1.2, hc.2]⟩
  · cases h

/-- What a builder can answer, and what it leaves: at most one allocation draw. -/
theorem buildFrame_cases (fits : Bool) (command : Byte) (p : Bytes) (tag : SenderTag) (s : State) :
    (fits = false ∧ buildFrame fits command p tag s = (.err .errArgs, s)) ∨
    (fits = true ∧ (drawAlloc s).1 = false ∧
      buildFrame fits command p tag s = (.fatal .allocFail, (drawAlloc s).2)) ∨
    (fits = true ∧ (drawAlloc s).1 = true ∧ ∃ f, frameNew Config.stxRequest (BitVec.ofNat 8 p.length) command p = some f ∧
      buildFrame fits command p tag s = (.ok f tag, (drawAlloc s).2)) ∨
    (fits = true ∧ (drawAlloc s).1 = true ∧ frameNew Config.stxRequest (BitVec.ofNat 8 p.length) command p = none ∧
      buildFrame fits command p tag s = (.fatal .frameInvariant, (drawAlloc s).2)) := by
  cases fits with
  | false => exact .inl ⟨rfl, rfl⟩
  | true =>
    unfold buildFrame
    rcases h : drawAlloc s with ⟨b, s1⟩
    cases b with
    | false => exact .inr (.inl ⟨rfl, rfl, by simp⟩)
    | true =>
      cases hf : frameNew Config.stxRequest (BitVec.ofNat 8 p.length) command p with
      | some f => exact .inr (.inr (.inl ⟨rfl, rfl, f, rfl, by simp⟩))
      | none => exact .inr (.inr (.inr ⟨rfl, rfl, rfl, by simp⟩))

/-! ## Running a task event -/

@[simp] theorem runTask_zero (s : State) : runTask 0 s = .next s := rfl

@[simp] theorem runTask_of_none {s : State} (n : Nat) (h : s.task = none) : runTask n s = .next s := by
  cases n <;> simp [runTask, h]

theorem runTask_of_step {s s' : State} {p : TaskPoint} (n : Nat) (h : s.task = some p) (hs : taskStep p s = .next s') :
    runTask (n + 1) s = runTask n s' := by
  simp [runTask, h, hs]

/-- What one more primitive step can do: nothing is in progress, or the step is taken, or its guard stops the run. -/
theorem runTask_succ_cases (n : Nat) (s : State) :
    (s.task = none ∧ runTask (n + 1) s = .next s) ∨
    (∃ p s', s.task = some p ∧ taskStep p s = .next s' ∧ runTask (n + 1) s = runTask n s') ∨
    (∃ p r, s.task = some p ∧ taskStep p s = .fault r ∧ runTask (n + 1) s = .fault r) ∨
    (∃ p r, s.task = some p ∧ taskStep p s = .refused r ∧ runTask (n + 1) s = .refused r) := by
  cases h : s.task with
  | none => exact .inl ⟨rfl, by simp [runTask, h]⟩
  | some p =>
    cases hs : taskStep p s with
    | next s' => exact .inr (.inl ⟨p, s', rfl, hs, by simp [runTask, h, hs]⟩)
    | fault r => exact .inr (.inr (.inl ⟨p, r, rfl, hs, by simp [runTask, h, hs]⟩))
    | refused r => exact .inr (.inr (.inr ⟨p, r, rfl, hs, by simp [runTask, h, hs]⟩))

/-- A property that every primitive step keeps is kept by a run of them. -/
theorem runTask_keeps {P : State → Prop} (hstep : ∀ p s s', s.task = some p → P s → taskStep p s = .next s' → P s') :
    ∀ n s t, P s → runTask n s = .next t → P t := by
  intro n
  induction n with
  | zero => intro s t hs h; cases h; exact hs
  | succ n ih =>
    intro s t hs h
    rcases runTask_succ_cases n s with ⟨_, he⟩ | ⟨p, s', hp, hps, he⟩ | ⟨p, r, _, _, he⟩ | ⟨p, r, _, _, he⟩
    · rw [he] at h; cases h; exact hs
    · rw [he] at h; exact ih s' t (hstep p s s' hp hs hps) h
    · rw [he] at h; cases h
    · rw [he] at h; cases h

/-- A guard of the model stops a run only in SEQ_POLL, at the release of a frame the sequencer does not hold. -/
theorem taskStep_fault {p : TaskPoint} {s : State} {r : Fault} (h : taskStep p s = .fault r) :
    ∃ k, p = .seq k .release ∧ s.seq.frame = none ∧ r = .seqFrameMissing := by
  cases p with
  | init p => cases h
  | ldr p => cases h
  | flw p => cases h
  | seq k p =>
    cases p <;> simp only [taskStep, seqStep] at h <;> first
      | (solve | cases h)
      | (split at h <;> first
          | (cases h; exact ⟨k, rfl, ‹_›, rfl⟩)
          | (solve | cases h)
          | (split at h <;> cases h))

/-- No primitive step is refused. -/
theorem taskStep_not_refused (p : TaskPoint) (s : State) (r : Refusal) : taskStep p s ≠ .refused r := by
  intro h
  cases p with
  | init p => cases h
  | ldr p => cases h
  | flw p => cases h
  | seq k p =>
    cases p <;> simp only [taskStep, seqStep] at h <;> first
      | cases h
      | (split at h <;> first
          | cases h
          | (split at h <;> cases h))

/-! ## Frames -/

/-- A frame built from its command and payload is well-formed (10_state.md R22). -/
theorem commandFrame_wf (c : Byte) (t : Stx) {p : Bytes} (h : p.length ≤ Config.maxPayload) : frameWf (commandFrame c t p) = true := by
  have h' : p.length < 256 := Nat.lt_succ_of_le h
  have ht : (stxOf t.byte).isSome = true := by cases t <;> rfl
  simp [frameWf, commandFrame, h, h', ht]

@[simp] theorem commandFrame_request_start (c : Byte) (p : Bytes) : (commandFrame c .request p).start = 0x02 := rfl

/-! ## SEQ_ENQUEUE -/

/-- All that SEQ_ENQUEUE can do when it answers next (45_sequencer.md R230): a busy sequencer is fatal; an idle one takes the tag, and the
frame or, for a frame that is no well-formed request, the free value. -/
theorem execSeqEnqueue_next {f : Frame} {tag : SenderTag} {s t : State} (h : execSeqEnqueue f tag s = .next t) :
    s.fatal = none ∧ tag ≠ .inactive ∧
    ((seqIdle s = false ∧ t = raise .seqEnqueueBusy s) ∨
     (seqIdle s = true ∧ frameWf f = true ∧ f.start = Config.stxRequest ∧
       t = { s with seq := { s.seq with tag := tag, frame := some f } }) ∨
     (seqIdle s = true ∧ ¬ (frameWf f = true ∧ f.start = Config.stxRequest) ∧ t = { s with
        seq := { s.seq with tag := tag, frame := some (unstatedRequest s.env.unstated) },
        env.unstated := s.env.unstated + 1 })) := by
  obtain ⟨hf, h⟩ := ifLive_next h
  have hi : ∀ n, seqIdle { s with env.unstated := n } = seqIdle s := fun _ => rfl
  unfold seqEnqueue at h
  simp only [hi] at h
  repeat' split at h
  all_goals simp_all

end Sys2Proof.Machine
end

