-- ==== Sys2Proof/Laws/Task.lean ====
section
/-! SUPPORT. The task events' own operations in the terms of Safety.lean: how a poll begins, what it returns to, and how the session
goes on with an application payload. A prover rewrites with these and does not unfold either side. -/
namespace Sys2Proof.Machine

@[simp] theorem standing_task (p : TaskPoint) (s : State) : (standing p s).task = some p := rfl
@[simp] theorem standing_fatal (p : TaskPoint) (s : State) : (standing p s).fatal = s.fatal := rfl
@[simp] theorem standing_env (p : TaskPoint) (s : State) : (standing p s).env = s.env := rfl
@[simp] theorem standing_q (p : TaskPoint) (s : State) : (standing p s).q = s.q := rfl
@[simp] theorem ended_task (s : State) : (ended s).task = none := rfl
@[simp] theorem ended_fatal (s : State) : (ended s).fatal = s.fatal := rfl
@[simp] theorem ended_env (s : State) : (ended s).env = s.env := rfl
@[simp] theorem fatalEnd_task (r : FatalReason) (s : State) : (fatalEnd r s).task = none := rfl
@[simp] theorem fatalEnd_fatal (r : FatalReason) (s : State) : (fatalEnd r s).fatal = some r := rfl
@[simp] theorem fatalEnd_env (r : FatalReason) (s : State) : (fatalEnd r s).env = s.env := rfl

theorem goto_eq_standing (p : TaskPoint) (s : State) : goto p s = standing p s := rfl
theorem endTask_eq_ended (s : State) : endTask s = ended s := rfl
theorem raiseInTask_eq_fatalEnd (r : FatalReason) (s : State) : raiseInTask r s = fatalEnd r s := rfl

/-- What an allocation draw answers and leaves, in the terms of the statements. -/
theorem drawAlloc_eq_afterDraw (s : State) : drawAlloc s = (s.env.alloc.head?.getD true, afterDraw s) := drawAlloc_eq s

theorem seqStart_eq_pollBegins (k : Caller) (s : State) : seqStart k s = pollBegins k s := by
  unfold seqStart pollBegins
  split
  · rfl
  · cases s.seq.state <;> rfl

theorem seqReturn_eq_pollReturns (k : Caller) (r : PollResult) (s : State) : seqReturn k r s = pollReturns k r s := by
  cases k <;> cases r <;> first
    | rfl
    | (rename_i e; cases e <;> rfl)

theorem ldrBody_eq_leaderEnters (s : State) : ldrBody s = leaderEnters s := by
  unfold ldrBody leaderEnters
  cases s.ldr.state <;> simp only [seqStart_eq_pollBegins, goto_eq_standing]

theorem sessionStart_eq_sessionEnters (s : State) : sessionStart s = sessionEnters s := by
  unfold sessionStart sessionEnters ldrStart flwStart
  cases s.build.role <;> simp only [ldrBody_eq_leaderEnters, goto_eq_standing]
  cases s.flw <;> simp only [seqStart_eq_pollBegins]

theorem inbound_cases (put : TaskPoint) (s : State) :
    inbound put s = if s.env.alloc.head? = some false then fatalEnd .allocFail (afterDraw s) else standing put (afterDraw s) := by
  unfold inbound
  rw [drawAlloc_eq_afterDraw]
  rcases s.env.alloc with _ | ⟨_ | _, _⟩ <;> rfl

theorem ldrOnApp_eq_leaderGoesOn (app : Bytes) (s : State) : ldrOnApp app s = leaderGoesOn app s := by
  unfold ldrOnApp leaderGoesOn
  cases app with
  | nil => rfl
  | cons h d =>
    by_cases h0 : h = 0 <;> by_cases h1 : h = 1 <;> by_cases h2 : h = 2 <;>
      simp_all [headerOf, Config.hdrIdle, Config.hdrData, Config.hdrPing, inbound_cases, raiseInTask_eq_fatalEnd, ldrToDispatch,
        endTask_eq_ended]

theorem flwOnApp_eq_followerGoesOn (app : Bytes) (s : State) : flwOnApp app s = followerGoesOn app s := by
  unfold flwOnApp followerGoesOn
  cases app with
  | nil => rfl
  | cons h d =>
    by_cases h0 : h = 0 <;> by_cases h1 : h = 1 <;> by_cases h2 : h = 2 <;>
      simp_all [headerOf, Config.hdrIdle, Config.hdrData, Config.hdrPing, inbound_cases, raiseInTask_eq_fatalEnd,
        endTask_eq_ended, goto_eq_standing]

end Sys2Proof.Machine
end

