-- ==== Sys2Proof/Tests/Slice0.lean ====
section
/-! SUPPORT. Small tests: what WellFormed refuses, the decoding of a word written out for every constructor, one or two results per
instruction (expected values from the examples of spec/ and 95_test_vectors.md), and a witness for the hypotheses of every
statement. -/
namespace Sys2Proof.Machine

/-! ## WellFormed: an ill-formed term for each check -/

theorem test_wf_build_default : Build.default.wf = true := by decide
theorem test_wf_build_opt_dl : { Build.default with optDl := List.replicate 14 0 }.wf = false := by decide +kernel
theorem test_wf_build_opt_phy : { Build.default with optPhy := List.replicate 6 0 }.wf = false := by decide +kernel
theorem test_wf_build_codes : { Build.default with basePing := 0x52 }.wf = false := by decide

/-- An instruction that WellFormed refuses under the default build. -/
def illFormed (i : Instr) : Bool := !(i.wf Build.default)

theorem test_wf_clock_zero : illFormed (.clockAdvance 0) = true := by decide
theorem test_wf_push_empty : illFormed (.hostOutPush []) = true := by decide
theorem test_wf_push_long : illFormed (.hostOutPush (List.replicate 256 0)) = true := by decide +kernel
theorem test_wf_enqueue_inactive : illFormed (.seqEnqueue (request 0x50 []) .inactive) = true := by decide
theorem test_wf_enqueue_long : illFormed (.seqEnqueue { request 0x50 [] with payload := List.replicate 256 0 } .dlData) = true := by decide +kernel
theorem test_wf_enqueue_tag_long : illFormed (.seqEnqueue (request 0x2C []) (.ping (List.replicate 256 0))) = true := by decide +kernel
theorem test_wf_mib_write_long : illFormed (.drvMibWrite 0 (List.replicate 256 0)) = true := by decide +kernel
theorem test_wf_ping_long : illFormed (.drvPing (List.replicate 256 0)) = true := by decide +kernel
theorem test_wf_checksum_long : illFormed (.checksum 0 0 (List.replicate 256 0)) = true := by decide +kernel
theorem test_wf_frame_new_length : illFormed (.frameNew 0x02 1 0x3C []) = true := by decide
theorem test_wf_frame_new_start : illFormed (.frameNew 0x04 0 0x3C []) = true := by decide
theorem test_wf_frame_serialise_long : illFormed (.frameSerialise { request 0x50 [] with payload := List.replicate 256 0 }) = true := by decide +kernel
theorem test_wf_timeout_absent : Instr.wf { Build.default with role := .follower } (.timeoutSet .ldrFail 1) = false := by decide
theorem test_wf_frame_long : illFormed (.frame .request 0x50 (List.replicate 256 0) 0 0) = true := by decide +kernel
theorem test_wf_desync_ack : illFormed (.desync 0x06) = true := by decide
theorem test_wf_header_long : illFormed (.hdrData (List.replicate 255 0)) = true := by decide +kernel
theorem test_wf_header_reserved_data : illFormed (.hdrReserved (some 0x01) []) = true := by decide
theorem test_wf_header_none_data : illFormed (.hdrReserved none [1]) = true := by decide
theorem test_wf_command_long : illFormed (.dlInd .indication (List.replicate 256 0)) = true := by decide +kernel
theorem test_wf_unused_in_table :
    Instr.wf { Build.default with baseMibErase := 0x0A } (.mibWriteUnused2 .indication []) = false := by decide
theorem test_wf_reserved_in_table : illFormed (.commandReserved 0x50 .indication []) = true := by decide

/-! ## Decode: a word of every constructor, from 30_encoding.md R112, R90, R94, R108, R99 and R97 and log entry 3 -/

/-- The slot decodes to exactly this instruction under the default build. -/
def decodesTo (space : Space) (bytes : Bytes) (i : Instr) : Bool :=
  match decode Build.default { space := space, bytes := bytes } with
  | .ok (j, []) => j == i
  | _ => false

theorem test_decode_events :
    decodesTo .event [0x01, 0x41] (.rxByte 0x41) && decodesTo .event [0x02] .txReady && decodesTo .event [0x03] .uartShift &&
    decodesTo .event [0x04, 0x10, 0x20, 0x00, 0x80] (.clockAdvance 0x80002010) && decodesTo .event [0x05] .sessionPoll &&
    decodesTo .event [0x06] .drvInit && decodesTo .event [0x07, 0x02, 0x00, 0x41, 0x42] (.hostOutPush [0x41, 0x42]) &&
    decodesTo .event [0x08] .hostInPop && decodesTo .event [0x09] .reset && decodesTo .event [0x0A] .drvSetReady := by decide

theorem test_decode_sequencer_and_builders :
    decodesTo .event [0x0B, 0x02, 0x01, 0x2C, 0x01, 0x00, 0xAA, 0xD7, 0x00, 0x06, 0x01, 0x00, 0xAA]
      (.seqEnqueue { start := 0x02, length := 1, command := 0x2C, payload := [0xAA], checksum := 0x00D7 } (.ping [0xAA])) &&
    decodesTo .event [0x0C] .seqPoll && decodesTo .event [0x0D] .drvResetReq &&
    decodesTo .event [0x0E, 0x05, 0x01, 0x00, 0x77] (.drvMibWrite 0x05 [0x77]) &&
    decodesTo .event [0x0F, 0x05] (.drvMibErase 0x05) && decodesTo .event [0x10, 0x01, 0x00, 0xAA] (.drvPing [0xAA]) &&
    decodesTo .event [0x11, 0x00, 0x00] (.drvPhyData []) && decodesTo .event [0x12, 0x01, 0x00, 0x01] (.drvDlData [0x01]) &&
    decodesTo .event [0x13, 0x01, 0x00, 0x02] (.drvData [0x02]) && decodesTo .event [0x14] .drvReceiveFrame := by decide

theorem test_decode_codec_and_timeouts :
    decodesTo .event [0x15, 0x50, 0x03, 0x01, 0x00, 0x41] (.checksum 0x50 0x03 [0x41]) &&
    decodesTo .event [0x16, 0x02, 0x00, 0x3C, 0x00, 0x00] (.frameNew 0x02 0x00 0x3C []) &&
    decodesTo .event [0x17, 0x02, 0x00, 0x3C, 0x00, 0x00, 0x3C, 0x01]
      (.frameChecksum { start := 0x02, length := 0, command := 0x3C, payload := [], checksum := 0x013C }) &&
    decodesTo .event [0x18, 0x02, 0x00, 0x3C, 0x00, 0x00, 0x3C, 0x00]
      (.frameSerialise { start := 0x02, length := 0, command := 0x3C, payload := [], checksum := 0x003C }) &&
    decodesTo .event [0x19, 0x01, 0xC8, 0x00] (.timeoutSet .status 200) &&
    decodesTo .event [0x1A, 0x05] (.timeoutExpired .ldrPing) && decodesTo .event [0x1B, 0x00] (.timeoutDisarm .rx) := by decide

theorem test_decode_wire :
    decodesTo .wireFrame [0x03, 0x01, 0x51, 0x00, 0x52, 0x00] (.frame .indication 0x51 [0x00] 0x52 0x00) &&
    decodesTo .firstByte [0x02] .stxRequest && decodesTo .firstByte [0x03] .stxIndication && decodesTo .firstByte [0x06] .ack &&
    decodesTo .firstByte [0x15] .nak && decodesTo .firstByte [0x3F] .stxStatus &&
    decodesTo .wireStatus [0x3F, 0x04] (.statusSequence 0x04) && decodesTo .firstByte [0x41] (.desync 0x41) := by decide

theorem test_decode_headers :
    decodesTo .header [0x00] (.hdrIdle []) && decodesTo .header [0x01, 0x48, 0x49] (.hdrData [0x48, 0x49]) &&
    decodesTo .header [0x02] (.hdrPing []) && decodesTo .header [0x03, 0x09] (.hdrReserved (some 0x03) [0x09]) &&
    decodesTo .header [] (.hdrReserved none []) := by decide

theorem test_decode_commands :
    decodesTo .command [0x3C, 0x00, 0x00, 0x00] (.resetReq .request []) &&
    decodesTo .command [0x3D, 0x01, 0x00, 0x00] (.resetCnf .indication []) &&
    decodesTo .command [0x3E, 0x01, 0x00, 0x00] (.resetInd .indication []) &&
    decodesTo .command [0x3F, 0x01, 0x00, 0x00] (.resetErr .indication []) &&
    decodesTo .command [0x08, 0x01, 0x00, 0x00] (.mibWriteReq .indication []) &&
    decodesTo .command [0x09, 0x01, 0x01, 0x00, 0x77] (.mibWriteCnf .indication [0x77]) &&
    decodesTo .command [0x0A, 0x01, 0x00, 0x00] (.mibWriteUnused2 .indication []) &&
    decodesTo .command [0x0B, 0x01, 0x00, 0x00] (.mibWriteErr .indication []) &&
    decodesTo .command [0x10, 0x01, 0x00, 0x00] (.mibEraseReq .indication []) &&
    decodesTo .command [0x11, 0x01, 0x00, 0x00] (.mibEraseCnf .indication []) &&
    decodesTo .command [0x12, 0x01, 0x00, 0x00] (.mibEraseUnused2 .indication []) &&
    decodesTo .command [0x13, 0x01, 0x00, 0x00] (.mibEraseErr .indication []) := by decide

theorem test_decode_more_commands :
    decodesTo .command [0x2C, 0x01, 0x00, 0x00] (.pingReq .indication []) &&
    decodesTo .command [0x2D, 0x01, 0x00, 0x00] (.pingCnf .indication []) &&
    decodesTo .command [0x2E, 0x01, 0x00, 0x00] (.pingUnused2 .indication []) &&
    decodesTo .command [0x2F, 0x01, 0x00, 0x00] (.pingErr .indication []) &&
    decodesTo .command [0x24, 0x01, 0x00, 0x00] (.phyReq .indication []) &&
    decodesTo .command [0x25, 0x01, 0x00, 0x00] (.phyCnf .indication []) &&
    decodesTo .command [0x26, 0x01, 0x00, 0x00] (.phyInd .indication []) &&
    decodesTo .command [0x27, 0x01, 0x00, 0x00] (.phyErr .indication []) &&
    decodesTo .command [0x50, 0x01, 0x00, 0x00] (.dlReq .indication []) &&
    decodesTo .command [0x51, 0x01, 0x00, 0x00] (.dlCnf .indication []) &&
    decodesTo .command [0x52, 0x01, 0x00, 0x00] (.dlInd .indication []) &&
    decodesTo .command [0x53, 0x01, 0x00, 0x00] (.dlErr .indication []) &&
    decodesTo .command [0x99, 0x01, 0x00, 0x00] (.commandReserved 0x99 .indication []) := by decide

/-- Slots that encode nothing are refused by name. -/
theorem test_decode_rejects :
    decode Build.default { space := .event, bytes := [0x1C] } = .error (.unknownEvent 0x1C) ∧
    decode Build.default { space := .event, bytes := [0x01] } = .error .truncated ∧
    decode Build.default { space := .wireFrame, bytes := [0x04, 0, 0, 0, 0] } = .error (.badStart 0x04) ∧
    decode Build.default { space := .wireStatus, bytes := [0x06, 0] } = .error (.notStatus 0x06) ∧
    decode Build.default { space := .event, bytes := [0x1A, 0x07] } = .error (.badTimeout 0x07) :=
  ⟨rfl, rfl, rfl, rfl, rfl⟩

/-- Words of spec/opcode_table.json as the table numbers them. -/
theorem test_table_words :
    decodeTableWord 8 0x05 = some .sessionPoll ∧ decodeTableWord 16 0x3F04 = some (.statusSequence 0x04) ∧
    decodeTableWord 8 0x3E = some (.resetInd .request []) ∧ decodeTableWord 8 0x41 = some (.desync 0x41) ∧
    decodeTableWord 8 0x00 = some (.hdrIdle []) := ⟨rfl, rfl, rfl, rfl, rfl⟩

/-! ## One step of each instruction -/

/-- The next state of an outcome, if it is one. -/
def nextOf : Out → Option State
  | .next t => some t
  | _ => none

/-- A field of the next state. -/
def seen {α : Type} (o : Out) (get : State → α) : Option α := (nextOf o).map get

/-- State.reset after init, with the gate open (95_test_vectors.md section 0). -/
def ready : State := { State.reset with init.phase := .done, sig.readyGate := true }

/-- The sequencer with an active DL request in a stage, the Leader sending. -/
def inStage (st : SeqState) : State :=
  { ready with seq.tag := .dlData, seq.state := st, ldr.state := .sendData }

/-- The TX framer about to act on a frame in a state. -/
def sending (st : TxState) (f : Option Frame) : State :=
  { ready with sig.txIe := true, sig.txActive := true, tx := { state := st, frame := f, idx := 0 } }

/-- The DL request frame of 41_frame_codec.md R134's example. -/
def dlFrame : Frame := { start := 0x02, length := 3, command := 0x50, payload := [0x01, 0x41, 0x42], checksum := 0x00D7 }

/-- An indication frame with an application payload. -/
def ind (p : Bytes) : Frame := commandFrame 0x52 .indication p

theorem test_step_idle : seen (step State.reset) (·.clock) = some 0 := rfl
theorem test_fetch_word : seen (step (State.reset.withFetchWord 8 0x06)) (·.line.reset) = some .low := rfl
theorem test_fetch_word_drv_reset : seen (step (State.reset.withFetchWord 8 0x0D)) (·.result) =
    some (.built { start := 0x02, length := 0, command := 0x3C, payload := [], checksum := 0x003C } .reset) := rfl

theorem test_rx_byte_starts_frame : seen (exec (.rxByte 0x03) ready) (fun t => (t.rx.state, t.rx.start)) =
    some (.length, 0x03) := rfl
theorem test_rx_byte_abandons : seen (exec (.rxByte 0x06)
    { ready with rx.state := .data, rx.tmo := { armed := true, start := 0, duration := 10 }, clock := 10, sig.ackWait := true })
    (fun t => (t.rx.state, t.q.ack)) = some (.firstByte, [.ack]) := rfl
theorem test_tx_ready_length : seen (exec .txReady { sending .sendLength (some dlFrame) with line.txreq := .low })
    (fun t => (t.uart.wireOut, t.line.txreq)) = some ([0x03], .high) := rfl
theorem test_tx_ready_done : seen (exec .txReady (sending .txDone (some dlFrame)))
    (fun t => (t.uart.wireOut, t.sig.txDone, t.sig.txIe)) = some ([], true, false) := rfl
theorem test_uart_shift : seen (exec .uartShift { ready with uart.thrEmpty := false }) (·.uart.thrEmpty) = some true := rfl
theorem test_clock_wraps : seen (exec (.clockAdvance 2) { ready with clock := 0xFFFFFFFF }) (·.clock) = some 1 := rfl
theorem test_session_poll_sends : seen (exec .sessionPoll { ready with q.usbOut := [[0x41, 0x42]] })
    (fun t => (t.seq.frame, t.ldr.state)) = some (some dlFrame, .sendData) := rfl
theorem test_session_poll_follower : seen (exec .sessionPoll
    { ready with build.role := .follower, build.twoWay := true, q.ind := [ind [0x02]] })
    (fun t => (t.seq.frame.map serialise, t.flw)) = some (some [0x02, 0x01, 0x50, 0x00, 0x51, 0x00], .send) := rfl
theorem test_drv_init_low : seen (exec .drvInit State.reset) (fun t => (t.line.reset, t.init.phase)) =
    some (.low, .resetLow) := rfl
theorem test_drv_init_done : seen (exec .drvInit { State.reset with
      init := { phase := .waitInd, tmo := { armed := true, start := 0, duration := 100 } }, clock := 100,
      q.ind := [commandFrame 0x3E .indication []] }) (fun t => (t.init.phase, t.q.ind)) = some (.done, []) := rfl
theorem test_host_out_push : seen (exec (.hostOutPush [0x41]) { ready with q.usbOut := [[0x40]] }) (·.q.usbOut) =
    some [[0x40], [0x41]] := rfl
theorem test_host_in_pop : seen (exec .hostInPop { ready with q.usbIn := [[0x48, 0x49], [0x50]] })
    (fun t => (t.result, t.q.usbIn)) = some (.popped (some [0x48, 0x49]), [[0x50]]) := rfl
theorem test_reset_leaves_fatal : seen (exec .reset { ready with fatal := some .allocFail, q.usbOut := [[1]] })
    (fun t => (t.fatal, t.q.usbOut, t.sig.readyGate)) = some (none, [], false) := rfl
theorem test_set_ready : seen (exec .drvSetReady { State.reset with init.phase := .done }) (·.sig.readyGate) = some true := rfl

theorem test_seq_enqueue : seen (exec (.seqEnqueue dlFrame .dlData) ready) (fun t => (t.seq.frame, t.seq.tag, t.fatal)) =
    some (some dlFrame, .dlData, none) := rfl
/-- R230: the tag is taken, whatever the frame; the free frame is not looked at. -/
theorem test_seq_enqueue_open : seen (exec (.seqEnqueue { dlFrame with checksum := 0 } .dlData) ready)
    (fun t => (t.seq.tag, t.seq.state, t.fatal, t.env.unstated)) = some (.dlData, .txreqLow, none, 1) := rfl
theorem test_seq_poll_requests : seen (exec .seqPoll { inStage .txreqLow with clock := 1000, q.status := [7, 8] })
    (fun t => (t.q.status, t.line.txreq, t.seq.tmoStatus, t.sig.statusWait)) =
    some ([], .low, { armed := true, start := 1000, duration := 200 }, true) := rfl
theorem test_seq_poll_confirms : seen (exec .seqPoll
    { inStage .waitCnf with seq.tag := .ping [0xAA, 0x55], q.cnf := [commandFrame 0x2D .indication [0xAA, 0x56]] })
    (fun t => (t.result, t.seq.tag)) = some (.poll (.fail .errPing), .inactive) := rfl
theorem test_drv_reset_req : seen (exec .drvResetReq ready) (·.result) = some (.built (request 0x3C []) .reset) := rfl
theorem test_drv_mib_write : seen (exec (.drvMibWrite 0x00 [0x01]) ready) (·.result) = some
    (.built { start := 0x02, length := 2, command := 0x08, payload := [0x00, 0x01], checksum := 0x000B } .mibWrite) := rfl
theorem test_drv_mib_erase : seen (exec (.drvMibErase 0x05) ready) (·.result) = some
    (.built { start := 0x02, length := 1, command := 0x10, payload := [0x05], checksum := 0x0016 } .mibErase) := rfl
theorem test_drv_ping : seen (exec (.drvPing [0xAA, 0x55]) ready) (·.result) = some
    (.built { start := 0x02, length := 2, command := 0x2C, payload := [0xAA, 0x55], checksum := 0x012D } (.ping [0xAA, 0x55])) :=
  rfl
theorem test_drv_phy_data : seen (exec (.drvPhyData [0x01]) ready) (·.result) = some
    (.built { start := 0x02, length := 1, command := 0x24, payload := [0x01], checksum := 0x0026 } .phyData) := rfl
theorem test_drv_phy_data_long : seen (exec (.drvPhyData (List.replicate 251 0)) ready) (·.result) =
    some (.failed .errArgs) := by decide +kernel
theorem test_drv_dl_data : seen (exec (.drvDlData [0x01, 0x41, 0x42]) ready) (·.result) = some (.built dlFrame .dlData) := rfl
theorem test_drv_dl_data_long : seen (exec (.drvDlData (List.replicate 243 0)) ready) (·.result) = some (.failed .errArgs) := by decide +kernel
theorem test_drv_data : seen (exec (.drvData [0x02]) ready) (·.result) = some
    (.built { start := 0x02, length := 1, command := 0x50, payload := [0x02], checksum := 0x0053 } .dlData) := rfl
theorem test_drv_receive_frame : seen (exec .drvReceiveFrame { ready with q.ind := [ind [1], ind [2]] })
    (fun t => (t.result, t.q.ind)) = some (.received (some (ind [1])), [ind [2]]) := rfl
theorem test_checksum : seen (exec (.checksum 0x50 0x03 [0x01, 0x41, 0x42]) ready) (·.result) = some (.checksum 0x00D7) := rfl
theorem test_frame_new : seen (exec (.frameNew 0x02 0 0x3C []) ready) (·.result) = some
    (.frame { start := 0x02, length := 0, command := 0x3C, payload := [], checksum := 0x003C }) := rfl
theorem test_frame_new_invariant : seen (exec (.frameNew 0x02 1 0x3C []) ready) (·.fatal) = some (some .frameInvariant) := rfl
theorem test_frame_checksum : seen (exec (.frameChecksum { dlFrame with checksum := 0 }) ready) (·.result) =
    some (.checksum 0x00D7) := rfl
theorem test_frame_serialise : seen (exec (.frameSerialise dlFrame) ready) (·.result) =
    some (.bytes [0x02, 0x03, 0x50, 0x01, 0x41, 0x42, 0xD7, 0x00]) := rfl
theorem test_timeout_set : seen (exec (.timeoutSet .status 200) { ready with clock := 1000 }) (·.seq.tmoStatus) =
    some { armed := true, start := 1000, duration := 200 } := rfl
theorem test_timeout_not_expired : seen (exec (.timeoutExpired .ack)
    { ready with seq.tmoAck := { armed := true, start := 0xFFFFFFFA, duration := 10 }, clock := 3 }) (·.result) =
    some (.flag false) := rfl
theorem test_timeout_expired : seen (exec (.timeoutExpired .ack)
    { ready with seq.tmoAck := { armed := true, start := 0xFFFFFFFA, duration := 10 }, clock := 4 }) (·.result) =
    some (.flag true) := rfl
theorem test_timeout_disarm : seen (exec (.timeoutDisarm .cnf)
    { ready with seq.tmoCnf := { armed := true, start := 5, duration := 6 } }) (·.seq.tmoCnf) =
    some { armed := false, start := 5, duration := 6 } := rfl

theorem test_frame_to_cnf : seen (exec (.frame .indication 0x51 [0x00] 0x52 0x00) ready)
    (fun t => (t.q.cnf, t.sig.pendingReply)) = some ([commandFrame 0x51 .indication [0x00]], some .ack) := rfl
theorem test_frame_bad_checksum : seen (exec (.frame .indication 0x3E [] 0x3F 0x00) ready)
    (fun t => (t.q.ind, t.sig.pendingReply, t.rx.state)) = some ([], none, .firstByte) := rfl
theorem test_stx_request : seen (exec .stxRequest ready) (·.rx.start) = some 0x02 := rfl
theorem test_stx_indication : seen (exec .stxIndication ready) (·.rx.tmo) =
    some { armed := true, start := 0, duration := 10 } := rfl
theorem test_ack : seen (exec .ack { ready with sig.ackWait := true }) (fun t => (t.q.ack, t.sig.ackWait)) =
    some ([.ack], false) := rfl
theorem test_nak_cancels_status : seen (exec .nak { ready with sig.statusWait := true }) (fun t => (t.q.ack, t.sig.statusWait)) =
    some ([], false) := rfl
theorem test_stx_status : seen (exec .stxStatus { ready with sig.statusWait := true }) (·.rx.state) = some .statusValue := rfl
theorem test_status_sequence : seen (exec (.statusSequence 0x3F) { ready with sig.statusWait := true })
    (fun t => (t.q.status, t.sig.statusWait, t.rx.state)) = some ([0x3F], false, .firstByte) := rfl
theorem test_desync : seen (exec (.desync 0x41) { ready with sig.ackWait := true, sig.statusWait := true })
    (fun t => (t.sig.ackWait, t.sig.statusWait, t.q.ack)) = some (false, false, []) := rfl
theorem test_hdr_idle : seen (exec (.hdrIdle []) { ready with ldr.state := .waitPing }) (fun t => (t.ldr.state, t.q.usbIn)) =
    some (.dispatch, []) := rfl
theorem test_hdr_data : seen (exec (.hdrData [0x48, 0x49]) { ready with ldr.state := .waitPing }) (·.q.usbIn) =
    some [[0x48, 0x49]] := rfl
theorem test_hdr_ping : seen (exec (.hdrPing []) { ready with ldr.state := .waitPing }) (·.fatal) =
    some (some .leaderGotPing) := rfl
theorem test_hdr_reserved : seen (exec (.hdrReserved (some 0x03) []) { ready with build.role := .follower })
    (fun t => (t.fatal, t.flw, t.q.usbIn)) = some (none, .wait, []) := rfl

/-- Where a valid frame with a row's command goes, the gate open and closed: lengths of q_ind and q_cnf. -/
def routedTo (i : Instr) (gate : Bool) : Option (Nat × Nat) :=
  seen (exec i { State.reset with sig.readyGate := gate }) fun t => (t.q.ind.length, t.q.cnf.length)

theorem test_reset_commands : routedTo (.resetInd .indication []) false = some (1, 0) ∧
    routedTo (.resetReq .indication []) true = some (0, 1) ∧ routedTo (.resetCnf .indication []) true = some (0, 1) ∧
    routedTo (.resetErr .indication []) true = some (0, 1) := ⟨rfl, rfl, rfl, rfl⟩
theorem test_mib_commands : routedTo (.mibWriteReq .indication []) true = some (0, 1) ∧
    routedTo (.mibWriteCnf .indication []) true = some (0, 1) ∧ routedTo (.mibWriteUnused2 .indication []) true = some (0, 1) ∧
    routedTo (.mibWriteErr .indication []) true = some (0, 1) ∧ routedTo (.mibEraseReq .indication []) true = some (0, 1) ∧
    routedTo (.mibEraseCnf .indication []) true = some (0, 1) ∧ routedTo (.mibEraseUnused2 .indication []) true = some (0, 1) ∧
    routedTo (.mibEraseErr .indication []) true = some (0, 1) := ⟨rfl, rfl, rfl, rfl, rfl, rfl, rfl, rfl⟩
theorem test_ping_commands : routedTo (.pingReq .indication []) true = some (0, 1) ∧
    routedTo (.pingCnf .indication [0xAA]) true = some (0, 1) ∧ routedTo (.pingUnused2 .indication []) true = some (0, 1) ∧
    routedTo (.pingErr .indication []) true = some (0, 1) := ⟨rfl, rfl, rfl, rfl⟩
theorem test_data_commands : routedTo (.phyReq .indication []) true = some (0, 1) ∧
    routedTo (.phyCnf .indication []) true = some (0, 1) ∧ routedTo (.phyInd .indication []) true = some (1, 0) ∧
    routedTo (.phyErr .indication []) true = some (0, 1) ∧ routedTo (.dlReq .indication []) true = some (0, 1) ∧
    routedTo (.dlCnf .indication []) true = some (0, 1) ∧ routedTo (.dlInd .request [0x01]) true = some (1, 0) ∧
    routedTo (.dlErr .indication []) true = some (0, 1) := ⟨rfl, rfl, rfl, rfl, rfl, rfl, rfl, rfl⟩
theorem test_gated_indications : routedTo (.phyInd .indication []) false = some (0, 0) ∧
    routedTo (.dlInd .indication []) false = some (0, 0) := ⟨rfl, rfl⟩
theorem test_reserved_command : routedTo (.commandReserved 0x99 .indication []) true = some (0, 1) := rfl

/-! ## Witnesses: states and operands that meet the hypotheses of each statement, clause by clause, at boundary values -/

/-- `ready`, with the allocator's next answer exhausted. -/
def exhausted : State := { ready with env.alloc := [false] }

/-- A Timeout of `d` ticks, set at 0. -/
def set0 (d : Word32) : Timeout := { armed := true, start := 0, duration := d }

/-- A session about to poll the sequencer, in a stage, for a role. -/
def polling (r : Role) (st : SeqState) : State := { inStage st with build.role := r, flw := .send }

theorem witness_StepRunsDecodedInstruction :
    (ready.env.trace = []) ∧
    decode ready.build { space := .event, bytes := [0x02, 0x00] } = .ok (.txReady, [0x00]) ∧
    decode ready.build { space := .event, bytes := [0x00] } = .error (.unknownEvent 0) := ⟨rfl, rfl, rfl⟩
theorem witness_DecodeAfterEncode : Build.default.wf = true ∧ (Instr.clockAdvance 0xFFFFFFFF).wf Build.default = true ∧
    (Instr.hostOutPush (List.replicate 255 0xFF)).wf Build.default = true := by decide +kernel
theorem witness_EncodeAfterDecode :
    decode Build.default { space := .event, bytes := [0x02, 0x09] } = .ok (.txReady, [0x09]) := rfl
theorem witness_ChecksumIsWrappingSum : ready.fatal = none := rfl
theorem witness_ChecksumNeverWraps : (List.replicate 255 (0xFF : Byte)).length ≤ 255 := by decide +kernel
theorem witness_SingleBitFlipChangesChecksum : 7 < 8 ∧ ([0x00, 0x80] : Bytes)[0]? = some 0x00 ∧
    ([0x00, 0x80] : Bytes)[1]? = some 0x80 ∧ (0x00 : Byte).getLsbD 7 = false ∧ (0x80 : Byte).getLsbD 7 = true := by decide
theorem witness_FrameNewBuildsOrFaults : ready.fatal = none ∧ (List.replicate 255 (0 : Byte)).length ≤ 255 ∧
    (0xFF : Byte).toNat = (List.replicate 255 (0 : Byte)).length ∧
    ¬ (([] : Bytes).length ≤ 255 ∧ (0x00 : Byte).toNat = ([] : Bytes).length ∧ ((0x04 : Byte) = 0x02 ∨ (0x04 : Byte) = 0x03)) := by
  decide +kernel
theorem witness_FrameChecksumAndSerialise : ready.fatal = none ∧ frameWf dlFrame = true := by decide +kernel
theorem witness_TimeoutOperations : ready.fatal = none ∧ ready.build.role = .leader ∧
    (getTimeoutReg .ldrPing ready).armed = false ∧
    (getTimeoutReg .ack { ready with seq.tmoAck := set0 0 }).armed = true ∧ TimeoutId.init ≠ .ldrFail := by decide
theorem witness_TimeoutExactAcrossWrap : ready.fatal = none ∧ (0xFFFFFFFF : Word32) ≠ 0 ∧ TimeoutId.rx ≠ .ldrFail := by decide
theorem witness_ClockAdvanceAndUartShift : ready.fatal = none ∧ (1 : Word32) ≠ 0 ∧
    { ready with uart.thrEmpty := false }.uart.thrEmpty = false ∧ ready.uart.thrEmpty = true := by decide
theorem witness_EveryByteIsTaken : ready.fatal = none := rfl
theorem witness_ExpiredTimeoutAbandonsFrame :
    let s := { ready with rx.state := .data, rx.tmo := set0 10, clock := 10 }
    s.fatal = none ∧ expired s s.rx.tmo = true := by decide
theorem witness_AckNakDelivered :
    (let s := { ready with sig.ackWait := true, q.ack := [.nak] }
     Quiet s ∧ s.rx.state = .firstByte ∧ s.sig.ackWait = true ∧ s.q.ack.length < 2) ∧
    (let s := { ready with sig.ackWait := true, q.ack := [.nak, .ack] }
     Quiet s ∧ s.rx.state = .firstByte ∧ s.sig.ackWait = true ∧ 2 ≤ s.q.ack.length) ∧
    (let s := { ready with sig.statusWait := true }
     Quiet s ∧ s.rx.state = .firstByte ∧ s.sig.ackWait = false ∧ s.sig.statusWait = true) ∧
    (Quiet ready ∧ ready.rx.state = .firstByte ∧ ready.sig.ackWait = false ∧ ready.sig.statusWait = false) := by decide
theorem witness_StatusMarkerAndByte :
    (let s := { ready with sig.statusWait := true }
     Quiet s ∧ s.rx.state = .firstByte ∧ s.sig.statusWait = true) ∧
    (Quiet ready ∧ ready.rx.state = .firstByte ∧ ready.sig.statusWait = false) ∧
    (let s := { ready with rx.state := .statusValue, q.status := [0] }
     Quiet s ∧ s.rx.state = .statusValue ∧ s.q.status.length < 2) ∧
    (let s := { ready with rx.state := .statusValue, q.status := [0, 1] }
     Quiet s ∧ s.rx.state = .statusValue ∧ 2 ≤ s.q.status.length) := by decide
theorem witness_StatusMarkerAndByte_sequence :
    (let s := { ready with sig.statusWait := true, q.status := [0] }
     Quiet s ∧ s.rx.state = .firstByte ∧ s.sig.statusWait = true ∧ s.q.status.length < 2) ∧
    (let s := { ready with sig.statusWait := true, q.status := [0, 1] }
     Quiet s ∧ s.rx.state = .firstByte ∧ s.sig.statusWait = true ∧ 2 ≤ s.q.status.length) ∧
    (Quiet ready ∧ ready.rx.state = .firstByte ∧ ready.sig.statusWait = false) := by decide
theorem witness_StartByteBeginsFrame :
    (Quiet ready ∧ ready.rx.state = .firstByte ∧ AllocOk ready) ∧
    (Quiet exhausted ∧ exhausted.rx.state = .firstByte ∧ ¬ AllocOk exhausted) := by decide
theorem witness_DesyncByteEndsWaits : Quiet ready ∧ ready.rx.state = .firstByte ∧ (0x04 : Byte) ≠ 0x02 ∧ (0x04 : Byte) ≠ 0x03 ∧
    (0x04 : Byte) ≠ 0x06 ∧ (0x04 : Byte) ≠ 0x15 ∧ (0x04 : Byte) ≠ 0x3F := by decide
theorem witness_FrameFieldsAreCollected :
    (let s := { ready with rx.state := .length, rx.tmo := set0 10, clock := 9 }
     Quiet s ∧ s.rx.state = .length) ∧
    (let s := { ready with rx.state := .command }
     Quiet s ∧ s.rx.state = .command ∧ s.rx.len = 0) ∧
    (let s := { ready with rx.state := .command, rx.len := 1 }
     Quiet s ∧ s.rx.state = .command ∧ s.rx.len ≠ 0) ∧
    (let s := { ready with rx.state := .data, rx.len := 2, rx.data := [7] }
     Quiet s ∧ s.rx.state = .data ∧ s.rx.data.length + 1 = s.rx.len.toNat) ∧
    (let s := { ready with rx.state := .data, rx.len := 2 }
     Quiet s ∧ s.rx.state = .data ∧ s.rx.data.length + 1 ≠ s.rx.len.toNat) ∧
    (let s := { ready with rx.state := .checksumLsb }
     Quiet s ∧ s.rx.state = .checksumLsb) := by decide
theorem witness_ChecksumMsbCompletesFrame :
    (let s := { ready with rx.state := .checksumMsb, rx.start := 3, rx.cmd := 0x3E, rx.csumLo := 0x3E }
     Quiet s ∧ s.rx.state = .checksumMsb ∧
       BitVec.ofNat 16 (s.rx.csumLo.toNat + 256 * (0x00 : Byte).toNat) = checksumOf s.rx.cmd s.rx.len s.rx.data) ∧
    (let s := { ready with rx.state := .checksumMsb, rx.start := 3, rx.cmd := 0x3E, rx.csumLo := 0x3F }
     Quiet s ∧ s.rx.state = .checksumMsb ∧
       BitVec.ofNat 16 (s.rx.csumLo.toNat + 256 * (0x00 : Byte).toNat) ≠ checksumOf s.rx.cmd s.rx.len s.rx.data) := by decide
theorem witness_WireRowsAreRxBytes :
    Instr.wf ready.build (.statusSequence 0x06) = true ∧ ready.fatal = none ∧
    wireBytes ready.build (.statusSequence 0x06) = some ([0x3F, 0x06] ++ []) ∧
    ∃ t, runAll ([0x3F, 0x06].map Instr.rxByte) ready = .next t := ⟨rfl, rfl, rfl, _, rfl⟩
theorem witness_WireRowsAreRxBytes_fatal :
    exhausted.fatal = none ∧ wireBytes exhausted.build (.dlInd .indication []) = some ([0x03] ++ [0x00, 0x52, 0x52, 0x00]) ∧
    ∃ t, runAll ([0x03].map Instr.rxByte) exhausted = .next t ∧ t.fatal ≠ none := ⟨rfl, rfl, _, rfl, by decide⟩
theorem witness_FrameRowIsReceived :
    (([] : Bytes).length ≤ 255 ∧ Quiet ready ∧ ready.rx.state = .firstByte ∧ AllocOk ready ∧
      BitVec.ofNat 16 ((0x3E : Byte).toNat + 256 * (0x00 : Byte).toNat) = checksumOf 0x3E 0 []) ∧
    BitVec.ofNat 16 ((0x3F : Byte).toNat + 256 * (0x00 : Byte).toNat) ≠ checksumOf 0x3E 0 [] ∧
    (Quiet exhausted ∧ exhausted.rx.state = .firstByte ∧ ¬ AllocOk exhausted) := by decide
theorem witness_RoundTripReproducesFrame_perByte :
    let f := commandFrame 0x52 .indication [0x01]
    let gaps : List Word32 := [0, 9, 0, 9, 9]
    frameWf f = true ∧ Quiet ready ∧ ready.rx.state = .firstByte ∧ AllocOk ready ∧ gaps.length < (serialise f).length ∧
      ready.build.rxRearm = .perByte ∧ (∀ g ∈ gaps, g.toNat < 10 * ready.build.tickRate.perMs) := by
  refine ⟨by decide, by decide, rfl, by decide, by decide, rfl, ?_⟩; intro g h; fin_cases h <;> decide
theorem witness_RoundTripReproducesFrame_startOnly :
    let s := { ready with build.rxRearm := .frameStartOnly }
    let gaps : List Word32 := [4, 0, 5]
    Quiet s ∧ s.build.rxRearm = .frameStartOnly ∧ (gaps.map BitVec.toNat).sum < 10 * s.build.tickRate.perMs := by decide
/-- A frame without payload, with a byte sent and host traffic between its bytes. -/
theorem witness_RoundTripReproducesFrame_between :
    let f := commandFrame 0x52 .indication []
    let s := sending .sendLength (some dlFrame)
    let between : List (List Instr) := [[.txReady, .uartShift], [.clockAdvance 9], [.hostInPop, .sessionPoll]]
    (∀ is ∈ between, ∀ i ∈ is, wireBytes s.build i = none ∧ i ≠ .reset) ∧
    (∃ u, runAll (spaced ((serialise f).take (f.payload.length + 4)) between) s = .next u ∧ u.fatal = none) ∧
    (∀ n v, 0 < n → n ≤ f.payload.length + 4 →
      runAll (spaced ((serialise f).take n) between) s = .next v → expired v v.rx.tmo = false) := by
  refine ⟨?_, ⟨_, rfl, rfl⟩, ?_⟩
  · intro is h i hi
    fin_cases h <;> fin_cases hi <;> exact ⟨rfl, by simp⟩
  · intro n v h0 hn h
    have : n = 1 ∨ n = 2 ∨ n = 3 ∨ n = 4 := by
      have : (commandFrame 0x52 .indication []).payload.length = 0 := rfl
      omega
    obtain rfl | rfl | rfl | rfl := this <;> cases h <;> rfl
theorem witness_CommandRowsAreRouted : (List.replicate 255 (0 : Byte)).length ≤ 255 ∧ Quiet ready ∧
    ready.rx.state = .firstByte ∧ AllocOk ready ∧ ((.dl, .ind) : Family × Variant) ∈ tableCodes ++ unusedCodes := by decide +kernel
theorem witness_TxReadySendsNextByte_reply :
    (let s := { sending .sendData (some dlFrame) with sig.pendingReply := some .ack }
     s.fatal = none ∧ s.sig.txIe = true ∧ s.uart.thrEmpty = true ∧ s.sig.txActive = true ∧ s.sig.pendingReply = some .ack) ∧
    (let s := { sending .sendStx none with sig.txActive := false }
     s.fatal = none ∧ s.sig.txIe = true ∧ s.uart.thrEmpty = true ∧ s.sig.txActive = false) := by decide
theorem witness_TxReadySendsNextByte_start :
    (let s := sending .sendStx none
     s.fatal = none ∧ s.sig.txIe = true ∧ s.uart.thrEmpty = true ∧ s.sig.txActive = true ∧ s.sig.pendingReply = none ∧
       s.tx.state = .sendStx ∧ s.tx.frame = none ∧ s.q.tx = []) ∧
    { sending .sendStx none with q.tx := [dlFrame] }.q.tx = dlFrame :: [] ∧
    (sending .sendStx (some dlFrame)).tx.frame = some dlFrame := by decide
theorem witness_TxReadySendsNextByte_frame :
    (let s := sending .sendLength (some dlFrame)
     s.fatal = none ∧ s.sig.txIe = true ∧ s.uart.thrEmpty = true ∧ s.sig.txActive = true ∧ s.sig.pendingReply = none ∧
       s.tx.frame = some dlFrame ∧ s.tx.state = .sendLength) ∧
    (sending .sendCommand (some dlFrame)).tx.state = .sendCommand ∧
    (let s := { sending .sendData (some dlFrame) with tx.idx := 2 }
     s.tx.state = .sendData ∧ dlFrame.payload[s.tx.idx]? = some 0x42) ∧
    (sending .sendChecksumLsb (some dlFrame)).tx.state = .sendChecksumLsb ∧
    (sending .sendChecksumMsb (some dlFrame)).tx.state = .sendChecksumMsb ∧
    (sending .txDone (some dlFrame)).tx.state = .txDone := by decide
theorem witness_TxReadyTouchesOnlyTransmit : ∃ t, exec .txReady (sending .sendLength (some dlFrame)) = .next t := ⟨_, rfl⟩
theorem witness_TxSendsSerialisation :
    let s := { sending .sendStx none with q.tx := [dlFrame] }
    frameWf dlFrame = true ∧ s.fatal = none ∧ s.sig.txIe = true ∧ s.uart.thrEmpty = true ∧ s.sig.txActive = true ∧
      s.sig.pendingReply = none ∧ s.tx.state = .sendStx ∧ s.tx.frame = none ∧ s.q.tx = dlFrame :: [] := by decide
theorem witness_BuildersBuildRequests : ready.build.wf = true ∧ ready.fatal = none ∧ AllocOk ready ∧
    (List.replicate 242 (0 : Byte)).length ≤ 242 ∧ (List.replicate 250 (0 : Byte)).length ≤ 250 ∧
    (List.replicate 253 (0 : Byte)).length ≤ 253 ∧ (List.replicate 254 (0 : Byte)).length ≤ 254 ∧
    ready.build.dataService = .dl ∧ { ready.build with dataService := .phy }.dataService = .phy := by decide +kernel
theorem witness_BuildersRejectOrFault : exhausted.fatal = none ∧ ¬ AllocOk exhausted ∧
    dataLimit exhausted.build < (List.replicate 243 (0 : Byte)).length ∧
    242 < (List.replicate 243 (0 : Byte)).length ∧ 250 < (List.replicate 251 (0 : Byte)).length ∧
    253 < (List.replicate 254 (0 : Byte)).length ∧ 254 < (List.replicate 255 (0 : Byte)).length := by decide +kernel
theorem witness_ReceiveFrameAndSetReady : ready.fatal = none ∧ ready.task = none ∧ ready.q.ind = [] ∧
    { ready with q.ind := [ind []] }.q.ind = ind [] :: [] ∧
    (let s := { ready with sig.readyGate := false }
     s.fatal = none ∧ s.task = none ∧ s.init.phase = .done ∧ s.sig.readyGate = false) := by decide
theorem witness_InitAdvances :
    (TaskFree State.reset ∧ State.reset.init.phase = .notStarted) ∧
    (let s := { State.reset with init := { phase := .resetLow, tmo := set0 1500 }, clock := 1499 }
     TaskFree s ∧ s.init.phase = .resetLow ∧ expired s s.init.tmo = false) ∧
    (let s := { State.reset with init := { phase := .resetLow, tmo := set0 1500 }, clock := 1500 }
     TaskFree s ∧ s.init.phase = .resetLow ∧ expired s s.init.tmo = true) ∧
    (let s := { State.reset with init := { phase := .waitInd, tmo := set0 100 }, clock := 99 }
     TaskFree s ∧ s.init.phase = .waitInd ∧ expired s s.init.tmo = false) ∧
    (let s := { State.reset with init := { phase := .waitInd, tmo := set0 100 }, clock := 100 }
     TaskFree s ∧ s.init.phase = .waitInd ∧ expired s s.init.tmo = true ∧ s.q.ind = []) ∧
    (commandFrame 0x3E .indication []).command = State.reset.build.code .reset .ind ∧
    (ind []).command ≠ State.reset.build.code .reset .ind := by decide
theorem witness_OneTaskEventEnabled : State.reset.fatal = none ∧ State.reset.task = none := by decide
theorem witness_SeqEnqueueTakesOneRequest :
    (ready.fatal = none ∧ frameWf dlFrame = true ∧ dlFrame.start = 0x02 ∧ SenderTag.dlData ≠ .inactive ∧
      ready.seq.state = .txreqLow ∧ ready.seq.tag = .inactive) ∧
    ((inStage .txreqLow).fatal = none ∧ (inStage .txreqLow).seq.tag ≠ .inactive) := by decide
theorem witness_SeqPollRequestsLine :
    (ready.fatal = none ∧ ready.task = none ∧ ready.seq.tag = .inactive) ∧
    (let s := { inStage .txreqLow with q.status := [1, 2] }
     s.fatal = none ∧ s.task = none ∧ s.seq.tag ≠ .inactive ∧ s.seq.state = .txreqLow) := by decide
theorem witness_SeqPollTakesStatus :
    (let s := { inStage .waitStatusFrame with seq.tmoStatus := set0 200, clock := 199 }
     s.fatal = none ∧ s.task = none ∧ s.seq.tag ≠ .inactive ∧ s.seq.state = .waitStatusFrame ∧ s.q.status = [] ∧
       expired s s.seq.tmoStatus = false) ∧
    (let s := { inStage .waitStatusFrame with seq.tmoStatus := set0 200, clock := 200 }
     s.fatal = none ∧ s.q.status = [] ∧ expired s s.seq.tmoStatus = true) ∧
    (0x02 : Byte) &&& 0x06 ≠ 0 ∧ (0x04 : Byte) &&& 0x06 ≠ 0 ∧ (0xF9 : Byte) &&& 0x06 = 0 ∧
    (let s := { inStage .waitStatusFrame with q.status := [0xF9], seq.frame := some dlFrame, q.tx := [dlFrame] }
     s.fatal = none ∧ s.q.status = 0xF9 :: [] ∧ s.seq.frame = some dlFrame ∧ s.q.tx.length < 2) ∧
    (let s := { inStage .waitStatusFrame with q.status := [0xF9], seq.frame := some dlFrame, q.tx := [dlFrame, dlFrame] }
     s.fatal = none ∧ s.q.status = 0xF9 :: [] ∧ s.seq.frame = some dlFrame ∧ 2 ≤ s.q.tx.length) := by decide
theorem witness_SeqPollWaitsForAck :
    (let s := inStage .waitTxFrameDone
     s.fatal = none ∧ s.task = none ∧ s.seq.tag ≠ .inactive ∧ s.seq.state = .waitTxFrameDone ∧ s.sig.txDone = false) ∧
    { inStage .waitTxFrameDone with sig.txDone := true }.sig.txDone = true ∧
    { inStage .waitAck with q.ack := [.nak] }.q.ack = .nak :: [] ∧ { inStage .waitAck with q.ack := [.ack] }.q.ack = .ack :: [] ∧
    (let s := { inStage .waitAck with seq.tmoAck := set0 40, clock := 40 }
     s.seq.state = .waitAck ∧ s.q.ack = [] ∧ expired s s.seq.tmoAck = true) ∧
    (let s := { inStage .waitAck with seq.tmoAck := set0 40, clock := 39 }
     s.seq.state = .waitAck ∧ s.q.ack = [] ∧ expired s s.seq.tmoAck = false) := by decide
theorem witness_SeqPollTakesConfirmation :
    (let s := { inStage .waitCnf with seq.tmoCnf := set0 4000, clock := 3999 }
     s.fatal = none ∧ s.task = none ∧ s.seq.state = .waitCnf ∧ s.seq.tag ≠ .inactive ∧ s.q.cnf = [] ∧
       expired s s.seq.tmoCnf = false) ∧
    (let s := { inStage .waitCnf with seq.tmoCnf := set0 4000, clock := 4000 }
     s.q.cnf = [] ∧ expired s s.seq.tmoCnf = true) ∧
    (let s := { inStage .waitCnf with q.cnf := [commandFrame 0x52 .indication []] }
     (commandFrame 0x52 .indication []).command ≠ s.build.code .dl .cnf ∧
       (commandFrame 0x52 .indication []).command ≠ s.build.code .dl .err ∧ s.seq.tag = .dlData) ∧
    (commandFrame 0x53 .indication []).command = ready.build.code .dl .err ∧
    (commandFrame 0x2F .indication [1]).command = ready.build.code .ping .err ∧
    (commandFrame 0x2F .indication [1]).payload ≠ [] ∧ (commandFrame 0x2D .indication [1]).payload = [1] := by decide
theorem witness_SessionReactsToPoll_wouldBlock :
    SessionFree (polling .leader .waitTxFrameDone) ∧ (polling .leader .waitTxFrameDone).ldr.failTmo.armed = false ∧
    ∃ t, exec .seqPoll (polling .leader .waitTxFrameDone) = .next t ∧ t.fatal = none ∧ t.result = .poll .wouldBlock :=
  ⟨by decide, rfl, _, rfl, rfl, rfl⟩
theorem witness_SessionReactsToPoll_ready :
    let s := { polling .leader .waitCnf with ldr.state := .sendPing, q.cnf := [commandFrame 0x51 .indication []] }
    SessionFree s ∧ s.ldr.state = .sendPing ∧
    ∃ t, exec .seqPoll s = .next t ∧ t.fatal = none ∧ t.result = .poll (.ready (commandFrame 0x51 .indication [])) :=
  ⟨by decide, rfl, _, rfl, rfl, rfl⟩
theorem witness_SessionReactsToPoll_readyData :
    let s := { polling .leader .waitCnf with ldr.state := .sendData, q.cnf := [commandFrame 0x51 .indication []] }
    SessionFree s ∧ s.build.role = .leader ∧ s.ldr.failTmo.armed = false ∧ s.ldr.state = .sendData ∧
    ∃ t, exec .seqPoll s = .next t ∧ t.fatal = none ∧ t.result = .poll (.ready (commandFrame 0x51 .indication [])) :=
  ⟨by decide, rfl, rfl, rfl, _, rfl, rfl, rfl⟩
theorem witness_SessionReactsToPoll_readyFollower :
    let s := { polling .follower .waitCnf with q.cnf := [commandFrame 0x53 .indication []] }
    SessionFree s ∧ s.build.role = .follower ∧ s.flw = .send ∧
    ∃ t, exec .seqPoll s = .next t ∧ t.fatal = none ∧ t.result = .poll (.ready (commandFrame 0x53 .indication [])) :=
  ⟨by decide, rfl, rfl, _, rfl, rfl, rfl⟩
theorem witness_SessionReactsToPoll_notRecoverable :
    let s := { polling .leader .waitCnf with ldr.state := .sendData, q.cnf := [commandFrame 0x2D .indication []] }
    SessionFree s ∧ s.build.role = .leader ∧ s.ldr.failTmo.armed = false ∧ s.ldr.state = .sendData ∧
    ∃ t, exec .seqPoll s = .next t ∧ t.fatal = none ∧ t.result = .poll (.fail .errConfirm) ∧
      Error.errConfirm ∉ [Error.txErrNoStatus, .txErrAckTmo, .txErrBusy, .txErrNak] :=
  ⟨by decide, rfl, rfl, rfl, _, rfl, rfl, rfl, by decide⟩
theorem witness_SessionReactsToPoll_notRecoverableFollower :
    let s := { polling .follower .waitAck with q.ack := [.nak] }
    SessionFree s ∧ s.flw = .send ∧ ∃ t, exec .seqPoll s = .next t ∧ t.fatal = none ∧ t.result = .poll (.fail .txErrNak) ∧
      Error.txErrNak ∉ [Error.txErrNoStatus, .txErrAckTmo] := ⟨by decide, rfl, _, rfl, rfl, rfl, by decide⟩
theorem witness_SessionReactsToPoll_recoverable :
    let s := { polling .leader .waitAck with q.ack := [.nak] }
    SessionFree s ∧ ∃ t, exec .seqPoll s = .next t ∧ t.fatal = none ∧ t.result = .poll (.fail .txErrNak) ∧
      Error.txErrNak ∈ [Error.txErrNoStatus, .txErrAckTmo, .txErrBusy, .txErrNak] ∧
      Error.txErrNak ∉ [Error.txErrNoStatus, .txErrAckTmo] := ⟨by decide, _, rfl, rfl, rfl, by decide, by decide⟩
theorem witness_SessionReactsToPoll_follower :
    let s := { polling .follower .waitAck with seq.tmoAck := set0 40, clock := 40 }
    SessionFree s ∧ s.build.role = .follower ∧ s.flw = .send ∧
    ∃ t, exec .seqPoll s = .next t ∧ t.fatal = none ∧ t.result = .poll (.fail .txErrAckTmo) :=
  ⟨by decide, rfl, rfl, _, rfl, rfl, rfl⟩
theorem witness_SessionReactsToPoll_fatal :
    let s := { ready with ldr.state := .sendData }
    SessionFree s ∧ s.build.role = .leader ∧ s.ldr.failTmo.armed = false ∧
    ∃ t, exec .seqPoll s = .next t ∧ t.fatal ≠ none := ⟨by decide, rfl, rfl, _, rfl, by decide⟩
/-- R358: the ACK arrives between WaitAck's Dequeue and its timeout test, and the poll still fails. -/
theorem test_ack_between_dequeue_and_check :
    let s := { inStage .waitAck with env.preempt := [1], sig.ackWait := true, seq.tmoAck := set0 40, clock := 40 }
    seen (runAll [.sessionPoll, .ack, .sessionPoll] s) (fun t => (t.q.ack, t.ldr.state, t.seq.tag)) =
      some ([.ack], .dispatch, .inactive) := rfl
/-- R351: a status sequence between the line's fall and the status_wait write is lost. -/
theorem test_status_before_status_wait :
    let s := { inStage .txreqLow with env.preempt := [3] }
    seen (runAll [.sessionPoll, .statusSequence 0x00, .sessionPoll] s) (fun t => (t.line.txreq, t.q.status, t.sig.statusWait)) =
      some (.low, [], true) := rfl
theorem witness_SeqPollPrimitiveSteps :
    { inStage .txreqLow with q.status := [7] }.q.status = 7 :: [] ∧ (inStage .txreqLow).q.status = [] ∧
    (0x02 : Byte) &&& 0x06 ≠ 0 ∧ (0xF9 : Byte) &&& 0x06 = 0 ∧
    (let s := { inStage .waitStatusFrame with seq.tmoStatus := set0 200, clock := 200 }
     expired s s.seq.tmoStatus = true) ∧
    (let s := { inStage .waitStatusFrame with seq.tmoStatus := set0 200, clock := 199 }
     expired s s.seq.tmoStatus = false) ∧
    (let s := { inStage .waitStatusFrame with seq.frame := some dlFrame, q.tx := [dlFrame] }
     s.seq.frame = some dlFrame ∧ s.q.tx.length < 2) ∧
    2 ≤ { inStage .waitStatusFrame with q.tx := [dlFrame, dlFrame] }.q.tx.length := by decide
theorem witness_SeqPollPrimitiveSteps_waits :
    { inStage .waitTxFrameDone with sig.txDone := true }.sig.txDone = true ∧ (inStage .waitTxFrameDone).sig.txDone = false ∧
    { inStage .waitAck with q.ack := [.nak] }.q.ack = .nak :: [] ∧ { inStage .waitAck with q.ack := [.ack] }.q.ack = .ack :: [] ∧
    (let s := { inStage .waitAck with seq.tmoAck := set0 40, clock := 40 }
     s.q.ack = [] ∧ expired s s.seq.tmoAck = true ∧ expired { s with clock := 39 } s.seq.tmoAck = false) ∧
    (let s := { inStage .waitCnf with seq.tmoCnf := set0 4000, clock := 4000 }
     s.q.cnf = [] ∧ expired s s.seq.tmoCnf = true ∧ expired { s with clock := 3999 } s.seq.tmoCnf = false) ∧
    (let s := { inStage .waitCnf with q.cnf := [commandFrame 0x52 .indication []] }
     (commandFrame 0x52 .indication []).command ≠ s.build.code .dl .cnf ∧
       (commandFrame 0x52 .indication []).command ≠ s.build.code .dl .err ∧ s.seq.tag = .dlData) ∧
    (commandFrame 0x2F .indication [1]).command = ready.build.code .ping .err ∧
    (commandFrame 0x2F .indication [1]).payload ≠ [] := by decide
theorem witness_TaskEventsRunPrimitiveSteps :
    (let s := { inStage .waitAck with task := some (.seq .ldrSendData .checkAck), q.ack := [.ack] }
     s.fatal = none ∧ s.task = some (.seq .ldrSendData .checkAck) ∧ s.env.preempt = []) ∧
    (∀ q, TaskPoint.seq .ldrSendData .checkAck ≠ .init q) ∧
    (let s := { State.reset with task := some (.init .armLow), env.preempt := [0, 1] }
     s.fatal = none ∧ s.task = some (.init .armLow) ∧ s.env.preempt = 0 :: [1]) ∧
    { State.reset with env.preempt := [1] }.env.preempt = (0 + 1) :: [] :=
  ⟨⟨rfl, rfl, rfl⟩, (by intro q h; cases h), ⟨rfl, rfl, rfl⟩, rfl⟩
theorem witness_SessionPrimitiveSteps :
    (ready.fatal = none ∧ ready.task = none ∧ ready.init.phase = .done ∧ ready.sig.readyGate = true) ∧
    (let s := { ready with ldr.failTmo := set0 100, ldr.pingTmo := set0 500, clock := 500 }
     expired s s.ldr.failTmo = true ∧ expired s s.ldr.pingTmo = true ∧ expired { s with clock := 99 } s.ldr.failTmo = false ∧
       expired { s with clock := 499 } s.ldr.pingTmo = false) ∧
    (let s := { ready with q.usbOut := [List.replicate 241 0] }
     s.build.wf = true ∧ s.seq.state = .txreqLow ∧ s.seq.tag = .inactive ∧
       (List.replicate 241 (0 : Byte)).length + 1 ≤ dataLimit s.build ∧ AllocOk s) ∧
    dataLimit ready.build < (List.replicate 242 (0 : Byte)).length + 1 ∧ ¬ AllocOk exhausted ∧ ready.q.usbOut = [] ∧
    ready.build.twoWay = false ∧ { ready with build.twoWay := true }.build.twoWay = true ∧ ready.q.ind = [] ∧
    { ready with q.ind := [ind []] }.q.ind = ind [] :: [] := by decide +kernel
theorem witness_InitPrimitiveSteps :
    (State.reset.fatal = none ∧ State.reset.task = none ∧ State.reset.init.phase ≠ .done) ∧
    (let s := { State.reset with init.tmo := set0 1500, clock := 1500 }
     expired s s.init.tmo = true ∧ expired { s with clock := 1499 } s.init.tmo = false) ∧
    (commandFrame 0x3E .indication []).command = State.reset.build.code .reset .ind ∧
    (ind []).command ≠ State.reset.build.code .reset .ind ∧ State.reset.q.ind = [] ∧
    { State.reset with q.ind := [ind []] }.q.ind = ind [] :: [] := by decide
theorem witness_LeaderBackoff :
    (let s := { ready with ldr.failTmo := set0 100, clock := 99 }
     SessionFree s ∧ s.build.role = .leader ∧ s.ldr.failTmo.armed = true ∧ expired s s.ldr.failTmo = false) ∧
    (let s := { ready with ldr.failTmo := set0 100, clock := 100 }
     SessionFree s ∧ s.build.role = .leader ∧ s.ldr.failTmo.armed = true ∧ expired s s.ldr.failTmo = true) := by decide
theorem witness_LeaderDispatches :
    (let s := { ready with q.usbOut := [List.replicate 241 0] }
     SessionFree s ∧ s.build.wf = true ∧ s.build.role = .leader ∧ s.ldr.failTmo.armed = false ∧ s.ldr.state = .dispatch ∧
       s.seq.state = .txreqLow ∧ s.seq.tag = .inactive ∧ (List.replicate 241 (0 : Byte)).length + 1 ≤ dataLimit s.build ∧
       AllocOk s) ∧
    dataLimit ready.build < (List.replicate 242 (0 : Byte)).length + 1 ∧ ¬ AllocOk exhausted ∧ SessionFree exhausted ∧
    (let s := { ready with build.twoWay := true }
     SessionFree s ∧ s.q.usbOut = [] ∧ s.build.twoWay = true ∧ AllocOk s) ∧
    (ready.q.usbOut = [] ∧ ready.build.twoWay = false) := by decide +kernel
theorem witness_LeaderWaitsForPingReply :
    (let s := { ready with ldr.state := .waitPing, ldr.pingTmo := set0 500, clock := 500 }
     SessionFree s ∧ s.build.role = .leader ∧ s.ldr.failTmo.armed = false ∧ s.ldr.state = .waitPing ∧
       expired s s.ldr.pingTmo = true) ∧
    (let s := { ready with ldr.state := .waitPing, ldr.pingTmo := set0 500, clock := 499 }
     SessionFree s ∧ expired s s.ldr.pingTmo = false ∧ s.q.ind = []) ∧
    (let s := { ready with ldr.state := .waitPing, q.ind := [ind []] }
     SessionFree s ∧ expired s s.ldr.pingTmo = false ∧ s.q.ind = ind [] :: []) := by decide
theorem witness_FollowerWaits :
    (let s := { ready with build.role := .follower }
     SessionFree s ∧ s.build.wf = true ∧ s.build.role = .follower ∧ s.flw = .wait ∧ s.seq.state = .txreqLow ∧
       s.seq.tag = .inactive ∧ s.q.ind = []) ∧
    { ready with q.ind := [ind [0x02]] }.q.ind = ind [0x02] :: [] := by decide
theorem witness_HeaderRowsAreRead :
    (let s := { ready with ldr.state := .waitPing }
     SessionFree s ∧ s.build.wf = true ∧ s.build.indOffset.val + ((0x01 : Byte) :: List.replicate 254 0).length ≤ 255 ∧
       s.build.role = .leader ∧ s.ldr.state = .waitPing) ∧
    (let s := { ready with build.role := .follower }
     SessionFree s ∧ s.build.role = .follower ∧ s.flw = .wait ∧ s.seq.state = .txreqLow ∧ s.seq.tag = .inactive) := by decide +kernel
theorem witness_HostQueues :
    (let s := { ready with q.usbOut := List.replicate 31 [1] }
     s.fatal = none ∧ 1 ≤ (List.replicate 255 (0 : Byte)).length ∧ (List.replicate 255 (0 : Byte)).length ≤ 255 ∧
       s.q.usbOut.length < 32) ∧
    32 ≤ { ready with q.usbOut := List.replicate 32 [1] }.q.usbOut.length ∧ 255 < (List.replicate 256 (0 : Byte)).length ∧ ready.q.usbIn = [] ∧
    { ready with q.usbIn := [[]] }.q.usbIn = [] :: [] := by decide +kernel
theorem witness_FatalStopsAllButReset : { ready with fatal := some .indQueueFull }.fatal = some .indQueueFull ∧
    Instr.rxByte 0 ≠ .reset := by decide
theorem witness_RefusedAndOpenCalls : ready.fatal = none ∧ ready.sig.txIe = false ∧ ready.uart.thrEmpty = true ∧
    frameWf { dlFrame with checksum := 0 } = false ∧ (ind []).start ≠ 0x02 ∧
    SenderTag.dlData ≠ .inactive ∧ ready.seq.state = .txreqLow ∧ ready.seq.tag = .inactive ∧
    { ready with build.role := .follower }.build.role = .follower ∧
    { ready with task := some (.ldr .takeInd) }.task ≠ none := by decide +kernel
/-- A state in the middle of an exchange: the Leader sends, the sequencer stands between two primitive steps. -/
def midExchange : State :=
  { inStage .waitStatusFrame with task := some (.seq .ldrSendData .signalActive), sig.txIe := true, q.tx := [dlFrame],
                                  env.trace := [{ space := .event, bytes := [0x05] }] }

theorem witness_reset_invariants : WellFormedState State.reset := by
  refine ⟨?_, ?_, ?_, ?_, ?_, ?_⟩ <;>
    simp [State.reset, State.atReset, QueuesBounded, FramesWellFormed, heldFrames, BuffersBounded, pendingInbound, RxCoherent,
      TxCoherent, SeqCoherent]
/-- The hypotheses of WellFormedStateKept and NoGuardFault, in the middle of an exchange. -/
theorem witness_WellFormedStateKept : WellFormedState midExchange ∧ ∃ t, step midExchange = .next t := by
  refine ⟨⟨?_, ?_, ?_, ?_, ?_, ?_⟩, _, rfl⟩ <;>
    simp [midExchange, inStage, ready, State.reset, State.atReset, QueuesBounded, FramesWellFormed, heldFrames, BuffersBounded,
      pendingInbound, RxCoherent, TxCoherent, SeqCoherent, Config.capTx, justReleased, stageOf]
  decide
theorem witness_IrqImpliesActiveKept : IrqImpliesActive midExchange ∧ ∃ t, step midExchange = .next t :=
  ⟨fun _ => .inr ⟨_, rfl⟩, _, rfl⟩
theorem witness_TimerArmedInFramesKept : TimerArmedInFrames midExchange ∧
    (∀ i u, fetch midExchange = .instr i u → (∀ ms, i ≠ .timeoutSet .rx ms) ∧ i ≠ .timeoutDisarm .rx) ∧
    ∃ t, step midExchange = .next t := by
  refine ⟨by unfold TimerArmedInFrames; decide, ?_, _, rfl⟩
  intro i u h; cases h; simp
theorem witness_SessionInvariantKept : SeqCoherent midExchange ∧ SessionCoherent midExchange ∧
    (∀ i u, fetch midExchange = .instr i u → noDirectSeqCall i = true) ∧ ∃ t, step midExchange = .next t := by
  refine ⟨?_, fun _ => rfl, ?_, _, rfl⟩
  · simp [midExchange, inStage, ready, State.reset, State.atReset, SeqCoherent, justReleased, stageOf]
  · intro i u h; cases h; rfl
theorem witness_StatusAndAckStayBounded : StatusBounded midExchange ∧ AckBounded midExchange ∧
    midExchange.fatal ≠ some .statusQueueFull ∧ midExchange.fatal ≠ some .ackQueueFull := by
  unfold StatusBounded AckBounded; decide
theorem witness_OneFrameInFlightKept : OneFrameInFlight midExchange ∧ TxCoherent midExchange.tx ∧
    midExchange.fatal ≠ some .txQueueFull := ⟨by unfold OneFrameInFlight; decide, rfl, by decide⟩
theorem witness_PreemptedTaskEventResumes :
    TaskFree (inStage .txreqLow) ∧ (∃ t, exec .sessionPoll (inStage .txreqLow) = .next t) ∧
    (∃ t, exec .sessionPoll { inStage .txreqLow with env.preempt := [2] } = .next t ∧ t.task ≠ none ∧ t.fatal = none) ∧
    TaskFree State.reset ∧
    (∃ t, exec .drvInit { State.reset with env.preempt := [1] } = .next t ∧ t.task ≠ none ∧ t.fatal = none) ∧
    interrupts midExchange.build .ack ∧ (∃ t, exec .ack midExchange = .next t) :=
  ⟨by decide, ⟨_, rfl⟩, ⟨_, rfl, by decide, rfl⟩, by decide, ⟨_, rfl, by decide, rfl⟩, .inl rfl, ⟨_, rfl⟩⟩

end Sys2Proof.Machine
end

section
/-! PROOFS. What one event can do to the state, said once per part of the engine: reception (42_rx_framer.md), transmission
(43_tx_framer.md), the task events' primitive steps (44_driver.md to 46_session.md), and every instruction by the part it calls.
Each part has its frame (a structure whose fields are equations that most often hold by computation, so that `{}` proves it) and
its inversion. Then the state's invariants at reset, O53, and kept by every step, O54 to O56. -/
namespace Sys2Proof.Machine

/-! ## Reception -/

/-- What reception leaves as it was; of tx_ie and tx_active it can only set both (42_rx_framer.md R162). -/
structure RxLeaves (s t : State) : Prop where
  build : t.build = s.build := by rfl
  line : t.line = s.line := by rfl
  tx : t.tx = s.tx := by rfl
  seq : t.seq = s.seq := by rfl
  ldr : t.ldr = s.ldr := by rfl
  flw : t.flw = s.flw := by rfl
  init : t.init = s.init := by rfl
  uart : t.uart = s.uart := by rfl
  clock : t.clock = s.clock := by rfl
  task : t.task = s.task := by rfl
  irq : (t.sig.txIe = s.sig.txIe ∧ t.sig.txActive = s.sig.txActive) ∨ (t.sig.txIe = true ∧ t.sig.txActive = true) := by
    exact .inl ⟨rfl, rfl⟩

theorem RxLeaves.trans {s u t : State} (h : RxLeaves s u) (g : RxLeaves u t) : RxLeaves s t where
  build := g.build.trans h.build
  line := g.line.trans h.line
  tx := g.tx.trans h.tx
  seq := g.seq.trans h.seq
  ldr := g.ldr.trans h.ldr
  flw := g.flw.trans h.flw
  init := g.init.trans h.init
  uart := g.uart.trans h.uart
  clock := g.clock.trans h.clock
  task := g.task.trans h.task
  irq := by
    rcases g.irq with ⟨hi, ha⟩ | hset
    · rw [hi, ha]; exact h.irq
    · exact .inr hset

/-- An allocation draw writes the environment's schedule of answers alone (20_memory.md R77). -/
theorem drawAlloc_answer (s : State) : ∃ ok alloc, drawAlloc s = (ok, { s with env.alloc := alloc }) :=
  ⟨_, _, drawAlloc_eq s⟩

theorem enqueueInd_leaves (f : Frame) (s : State) : RxLeaves s (enqueueInd f s) ∧ (enqueueInd f s).rx = s.rx := by
  rcases enqueueInd_cases f s with ⟨_, h⟩ | ⟨_, h⟩ <;> rw [h] <;> exact ⟨{}, rfl⟩

theorem enqueueCnf_leaves (f : Frame) (s : State) : RxLeaves s (enqueueCnf f s) ∧ (enqueueCnf f s).rx = s.rx := by
  rcases enqueueCnf_cases f s with ⟨_, h⟩ | ⟨_, h⟩ <;> rw [h] <;> exact ⟨{}, rfl⟩

theorem enqueueStatus_leaves (b : Byte) (s : State) : RxLeaves s (enqueueStatus b s) ∧ (enqueueStatus b s).rx = s.rx := by
  rcases enqueueStatus_cases b s with ⟨_, h⟩ | ⟨_, h⟩ <;> rw [h] <;> exact ⟨{}, rfl⟩

theorem enqueueAck_leaves (r : Reply) (s : State) : RxLeaves s (enqueueAck r s) ∧ (enqueueAck r s).rx = s.rx := by
  rcases enqueueAck_cases r s with ⟨_, h⟩ | ⟨_, h⟩ <;> rw [h] <;> exact ⟨{}, rfl⟩

theorem armReply_leaves (r : Reply) (s : State) : RxLeaves s (armReply r s) := { irq := .inr ⟨rfl, rfl⟩ }

theorem route_leaves (f : Frame) (s : State) : RxLeaves s (route f s) ∧ (route f s).rx = s.rx := by
  unfold route
  repeat' split
  · exact enqueueInd_leaves f s
  · exact ⟨{}, rfl⟩
  · exact enqueueCnf_leaves f s
  · exact enqueueCnf_leaves f s

theorem csumFail_leaves (s : State) : RxLeaves s (csumFail s) ∧ (csumFail s).rx = s.rx := by
  unfold csumFail
  split
  · exact ⟨{}, rfl⟩
  · exact ⟨armReply_leaves .nak s, rfl⟩

theorem rxReply_leaves (r : Reply) (s : State) : RxLeaves s (rxReply r s) ∧ (rxReply r s).rx = s.rx := by
  obtain ⟨hl, hrx⟩ := enqueueAck_leaves r s
  unfold rxReply
  split
  · dsimp only
    split
    · exact ⟨hl, hrx⟩
    · exact ⟨hl.trans {}, hrx⟩
  · split <;> exact ⟨{}, rfl⟩

theorem rxStatusMark_leaves (s : State) : RxLeaves s (rxStatusMark s) := by
  unfold rxStatusMark
  split <;> exact {}

theorem rxFrameStart_leaves (b : Byte) (s : State) : RxLeaves s (rxFrameStart b s) := by
  obtain ⟨ok, alloc, h⟩ := drawAlloc_answer s
  unfold rxFrameStart
  rw [h]
  cases ok <;> exact {}

theorem rxFirstByte_leaves (b : Byte) (s : State) : RxLeaves s (rxFirstByte b s) := by
  unfold rxFirstByte
  split
  · exact (rxReply_leaves _ s).1
  · exact rxStatusMark_leaves s
  · exact rxFrameStart_leaves b s
  · exact {}

theorem rxStatusValue_leaves (b : Byte) (s : State) : RxLeaves s (rxStatusValue b s) := by
  have hl := (enqueueStatus_leaves b s).1
  unfold rxStatusValue
  dsimp only
  split
  · exact hl
  · exact hl.trans {}

theorem rxRearm_leaves (s : State) : RxLeaves s (rxRearm s) := by
  unfold rxRearm
  split <;> exact {}

/-- The RX framer back in FirstByte with its timer disarmed: a frame ended, or was abandoned (42_rx_framer.md R150, R160). -/
def frameClosed (s : State) : State := { s with rx := { s.rx with state := .firstByte, tmo := s.rx.tmo.disarm } }

/-- How a frame's last byte can end: a fatal ROUTE, a frame acknowledged, or CSUM_FAIL (42_rx_framer.md R160). -/
theorem rxChecksumMsb_cases (b : Byte) (s : State) :
    rxChecksumMsb b s = route (rxFrame s b) (frameClosed s) ∨
    rxChecksumMsb b s = armReply .ack (route (rxFrame s b) (frameClosed s)) ∨
    rxChecksumMsb b s = csumFail (frameClosed s) := by
  unfold rxChecksumMsb
  dsimp only
  split
  · split
    · exact .inl rfl
    · exact .inr (.inl rfl)
  · exact .inr (.inr rfl)

theorem rxChecksumMsb_leaves (b : Byte) (s : State) : RxLeaves s (rxChecksumMsb b s) := by
  have hclosed : RxLeaves s (frameClosed s) := {}
  have hroute := hclosed.trans (route_leaves (rxFrame s b) (frameClosed s)).1
  rcases rxChecksumMsb_cases b s with h | h | h <;> rw [h]
  · exact hroute
  · exact hroute.trans (armReply_leaves _ _)
  · exact hclosed.trans (csumFail_leaves _).1

theorem rxDispatch_leaves (b : Byte) (s : State) : RxLeaves s (rxDispatch b s) := by
  unfold rxDispatch
  split
  · exact rxFirstByte_leaves b s
  · exact rxStatusValue_leaves b s
  · exact RxLeaves.trans {} (rxRearm_leaves _)
  · exact RxLeaves.trans {} (rxRearm_leaves _)
  · exact RxLeaves.trans {} (rxRearm_leaves _)
  · exact RxLeaves.trans {} (rxRearm_leaves _)
  · exact rxChecksumMsb_leaves b s

theorem rxExpire_leaves (s : State) : RxLeaves s (rxExpire s) := by
  unfold rxExpire
  split <;> exact {}

theorem rxByte_leaves (b : Byte) (s : State) : RxLeaves s (rxByte b s) :=
  (rxExpire_leaves s).trans (rxDispatch_leaves b _)

/-- A property that every received byte keeps is kept by a delivery. -/
theorem deliver_keeps {P : State → Prop} (hbyte : ∀ b s, P s → P (rxByte b s)) (bs : Bytes) (s : State) (hs : P s) :
    P (deliver bs s) := by
  induction bs generalizing s with
  | nil => exact hs
  | cons b bs ih =>
    unfold deliver
    split
    · exact hs
    · exact ih _ (hbyte b s hs)

theorem deliver_singleton {s : State} (b : Byte) (h : s.fatal = none) : deliver [b] s = rxByte b s := by
  simp [deliver, h]

/-! ### The inter-character timer -/

theorem TimerArmedInFrames.of_rx {s t : State} (h : t.rx = s.rx) (hs : TimerArmedInFrames s) : TimerArmedInFrames t := by
  unfold TimerArmedInFrames at *
  rwa [h]

/-- R156-R159 stay inside the frame with the timer running, whether or not R164 arms it anew. -/
theorem rxRearm_timerArmed {s : State} (harmed : s.rx.tmo.armed = true)
    (hframe : s.rx.state ≠ .firstByte ∧ s.rx.state ≠ .statusValue) : TimerArmedInFrames (rxRearm s) := by
  unfold rxRearm
  split
  · exact ⟨fun _ => hframe, fun _ => rfl⟩
  · exact ⟨fun _ => hframe, fun _ => harmed⟩

theorem frameClosed_timerArmed (s : State) : TimerArmedInFrames (frameClosed s) := by
  simp [TimerArmedInFrames, frameClosed, Timeout.disarm]

theorem rxExpire_timerArmed {s : State} (hs : TimerArmedInFrames s) : TimerArmedInFrames (rxExpire s) := by
  unfold rxExpire
  split
  · exact frameClosed_timerArmed s
  · exact hs

theorem rxFrameStart_timerArmed (b : Byte) {s : State} (hs : TimerArmedInFrames s) : TimerArmedInFrames (rxFrameStart b s) := by
  obtain ⟨ok, alloc, h⟩ := drawAlloc_answer s
  unfold rxFrameStart
  rw [h]
  cases ok
  · exact hs
  · simp [TimerArmedInFrames, armed]

theorem rxFirstByte_timerArmed (b : Byte) {s : State} (hs : TimerArmedInFrames s) (hst : s.rx.state = .firstByte) :
    TimerArmedInFrames (rxFirstByte b s) := by
  unfold rxFirstByte
  split
  · exact hs.of_rx (rxReply_leaves _ s).2
  · unfold rxStatusMark
    split
    · simpa [TimerArmedInFrames, hst] using hs
    · exact hs
  · exact rxFrameStart_timerArmed b hs
  · exact hs

theorem rxStatusValue_timerArmed (b : Byte) {s : State} (hs : TimerArmedInFrames s) (hst : s.rx.state = .statusValue) :
    TimerArmedInFrames (rxStatusValue b s) := by
  have hrx := (enqueueStatus_leaves b s).2
  unfold rxStatusValue
  dsimp only
  split
  · exact hs.of_rx hrx
  · simpa [TimerArmedInFrames, hst, hrx] using hs

theorem rxChecksumMsb_timerArmed (b : Byte) (s : State) : TimerArmedInFrames (rxChecksumMsb b s) := by
  have hclosed := frameClosed_timerArmed s
  have hroute := hclosed.of_rx (route_leaves (rxFrame s b) (frameClosed s)).2
  rcases rxChecksumMsb_cases b s with h | h | h <;> rw [h]
  · exact hroute
  · exact hroute.of_rx rfl
  · exact hclosed.of_rx (csumFail_leaves _).2

theorem rxDispatch_timerArmed (b : Byte) {s : State} (hs : TimerArmedInFrames s) : TimerArmedInFrames (rxDispatch b s) := by
  unfold rxDispatch
  split
  case h_1 hst => exact rxFirstByte_timerArmed b hs hst
  case h_2 hst => exact rxStatusValue_timerArmed b hs hst
  case h_3 hst => exact rxRearm_timerArmed (hs.mpr (by simp [hst])) (by simp)
  case h_4 hst => exact rxRearm_timerArmed (hs.mpr (by simp [hst])) (by dsimp; split <;> simp)
  case h_5 hst => exact rxRearm_timerArmed (hs.mpr (by simp [hst])) (by dsimp; split <;> simp)
  case h_6 hst => exact rxRearm_timerArmed (hs.mpr (by simp [hst])) (by simp)
  case h_7 => exact rxChecksumMsb_timerArmed b s

/-- RX_BYTE keeps R46 (e) and (f). -/
theorem rxByte_timerArmed (b : Byte) (s : State) (hs : TimerArmedInFrames s) : TimerArmedInFrames (rxByte b s) :=
  rxDispatch_timerArmed b (rxExpire_timerArmed hs)

/-! ## Transmission -/

/-- What TX_READY leaves as it was; tx_ie and tx_active it can only clear, both at once (43_tx_framer.md R182, R188). -/
structure TxLeaves (s t : State) : Prop where
  build : t.build = s.build := by rfl
  rx : t.rx = s.rx := by rfl
  seq : t.seq = s.seq := by rfl
  ldr : t.ldr = s.ldr := by rfl
  flw : t.flw = s.flw := by rfl
  init : t.init = s.init := by rfl
  clock : t.clock = s.clock := by rfl
  fatal : t.fatal = s.fatal := by rfl
  task : t.task = s.task := by rfl
  env : t.env = s.env := by rfl
  irq : (t.sig.txIe = s.sig.txIe ∧ t.sig.txActive = s.sig.txActive) ∨ (t.sig.txIe = false ∧ t.sig.txActive = false) := by
    exact .inl ⟨rfl, rfl⟩

theorem withTxFrame_next {s t : State} {k : Frame → Out} (h : withTxFrame s k = .next t) :
    ∃ f, s.tx.frame = some f ∧ k f = .next t := by
  unfold withTxFrame at h
  split at h
  · exact ⟨_, ‹_›, h⟩
  · cases h

theorem withTxFrame_of_some {s : State} {f : Frame} (k : Frame → Out) (h : s.tx.frame = some f) : withTxFrame s k = k f := by
  simp [withTxFrame, h]

theorem txSendStx_leaves (s : State) : TxLeaves s (txSendStx s) := by
  unfold txSendStx
  split
  · exact {}
  · split
    · exact { irq := .inr ⟨rfl, rfl⟩ }
    · exact {}

theorem txSendData_next {f : Frame} {s t : State} (h : txSendData f s = .next t) : TxLeaves s t := by
  unfold txSendData at h
  split at h <;> cases h
  exact {}

theorem txReady_leaves {s t : State} (h : txReady s = .next t) : TxLeaves s t := by
  unfold txReady at h
  split at h
  · cases h; exact {}
  split at h
  · cases h; exact {}
  split at h
  case h_1 => cases h; exact txSendStx_leaves s
  case h_4 => obtain ⟨f, _, h⟩ := withTxFrame_next h; exact txSendData_next h
  case h_7 => cases h; exact { irq := .inr ⟨rfl, rfl⟩ }
  all_goals obtain ⟨f, _, h⟩ := withTxFrame_next h; cases h; exact {}

/-- Past SendStx a coherent TX framer holds its frame, and in SendData tx_idx is inside the payload (10_state.md R46 (d), R185). -/
theorem txReady_no_fault {s : State} (hs : TxCoherent s.tx) (r : Fault) : txReady s ≠ .fault r := by
  have holds {k : Frame → Out} (hsome : s.tx.frame.isSome = true) (hk : ∀ f, k f ≠ .fault r) :
      withTxFrame s k ≠ .fault r := by
    obtain ⟨f, hf⟩ := Option.isSome_iff_exists.mp hsome
    rw [withTxFrame_of_some k hf]
    exact hk f
  unfold txReady
  unfold TxCoherent at hs
  split
  · simp
  split
  · simp
  split <;> rename_i hst <;> simp only [hst] at hs
  case h_1 => simp
  case h_2 => exact holds hs.1 (by simp)
  case h_3 => exact holds hs.1 (by simp)
  case h_4 =>
    obtain ⟨f, hf, hidx⟩ := hs
    rw [withTxFrame_of_some _ hf]
    simp [txSendData, List.getElem?_eq_getElem hidx]
  case h_5 => exact holds hs (by simp)
  case h_6 => exact holds hs (by simp)
  case h_7 => simp

/-! ## Task events -/

/-- What the task context never writes: the framers' registers, the UART, the clock and the build. -/
structure TaskLeaves (s t : State) : Prop where
  build : t.build = s.build := by rfl
  rx : t.rx = s.rx := by rfl
  tx : t.tx = s.tx := by rfl
  uart : t.uart = s.uart := by rfl
  clock : t.clock = s.clock := by rfl

theorem TaskLeaves.trans {s u t : State} (h : TaskLeaves s u) (g : TaskLeaves u t) : TaskLeaves s t where
  build := g.build.trans h.build
  rx := g.rx.trans h.rx
  tx := g.tx.trans h.tx
  uart := g.uart.trans h.uart
  clock := g.clock.trans h.clock

/-- No SEQ_POLL stands between two of its primitive steps. -/
def NoPoll (s : State) : Prop := ∀ k p, s.task ≠ some (.seq k p)

theorem noPoll_of_none {s : State} (h : s.task = none) : NoPoll s := by simp [NoPoll, h]

theorem NoPoll.not_justReleased {s : State} (h : NoPoll s) : justReleased s.task = false := by
  unfold justReleased
  split
  · exact absurd ‹_› (h _ _)
  · exact absurd ‹_› (h _ _)
  · rfl

/-- What becomes of the sequencer and of the task event where SEQ_POLL itself does not step: nothing of the sequencer changes and no
poll goes on; an idle sequencer takes a request (45_sequencer.md R230) and the event ends; or a poll begins at its stage (R231). -/
inductive SeqControl (s t : State) : Prop
  | leaves (seq : t.seq = s.seq) (task : NoPoll t)
  | takes (f : Frame) (tag : SenderTag) (idle : seqIdle s = true) (active : tag ≠ .inactive)
      (seq : t.seq = { s.seq with tag := tag, frame := some f }) (task : t.task = none)
  | polls (k : Caller) (active : s.seq.tag ≠ .inactive) (seq : t.seq = s.seq)
      (task : t.task = some (.seq k (seqEntry s.seq.state)))

/-- A move of the task context's own registers and queues, with no poll going on after it. -/
structure Aside (s t : State) : Prop where
  leaves : TaskLeaves s t := by exact {}
  sig : t.sig = s.sig := by rfl
  seq : t.seq = s.seq := by rfl
  task : NoPoll t := by simp [NoPoll]

/-- What the session and DRV_INIT can do in one primitive step, and what can begin a task event: no signal is written. -/
structure SessionMove (s t : State) : Prop where
  leaves : TaskLeaves s t
  sig : t.sig = s.sig
  control : SeqControl s t

theorem SessionMove.aside {s t : State} (h : Aside s t := by exact {}) : SessionMove s t :=
  ⟨h.leaves, h.sig, .leaves h.seq h.task⟩

/-- Writes of the session's own registers, of queues and of the environment's draws before a move change nothing of it. -/
theorem SessionMove.after {s u t : State} (h : SessionMove u t) (leaves : TaskLeaves s u := by exact {})
    (sig : u.sig = s.sig := by rfl) (seq : u.seq = s.seq := by rfl) : SessionMove s t where
  leaves := leaves.trans h.leaves
  sig := h.sig.trans sig
  control := by
    cases h.control with
    | leaves hseq htask => exact .leaves (hseq.trans seq) htask
    | takes f tag idle active hseq htask => exact .takes f tag (by simpa [seqIdle, seq] using idle) active (by rw [hseq, seq]) htask
    | polls k active hseq htask => exact .polls k (seq ▸ active) (hseq.trans seq) (seq ▸ htask)

theorem seqStart_move (k : Caller) (s : State) : SessionMove s (seqStart k s) := by
  unfold seqStart
  split
  · exact .aside
  · exact ⟨{}, rfl, .polls k ‹_› rfl rfl⟩

theorem seqReturn_aside (k : Caller) (r : PollResult) (s : State) : Aside s (seqReturn k r s) := by
  unfold seqReturn
  repeat' split
  all_goals exact {}

theorem inbound_move {put : TaskPoint} (s : State) (hput : ∀ k p, put ≠ .seq k p) : SessionMove s (inbound put s) := by
  obtain ⟨ok, alloc, h⟩ := drawAlloc_answer s
  unfold inbound
  rw [h]
  cases ok
  · exact .aside
  · exact .aside { task := by simpa [NoPoll] using hput }

/-- A builder draws at most one allocation, and answers with the tag it was given (44_driver.md, opening). -/
theorem buildFrame_answer (fits : Bool) (command : Byte) (p : Bytes) (tag : SenderTag) (s : State) : ∃ answer alloc,
    buildFrame fits command p tag s = (answer, { s with env.alloc := alloc }) ∧ ∀ f g, answer = .ok f g → g = tag := by
  rcases buildFrame_cases fits command p tag s with ⟨_, h⟩ | ⟨_, _, h⟩ | ⟨_, _, f, _, h⟩ | ⟨_, _, _, h⟩
  · exact ⟨_, s.env.alloc, h, by simp⟩
  · exact ⟨_, _, h.trans (by rw [drawAlloc_eq]), by simp⟩
  · exact ⟨_, _, h.trans (by rw [drawAlloc_eq]), by rintro _ _ ⟨⟩; rfl⟩
  · exact ⟨_, _, h.trans (by rw [drawAlloc_eq]), by simp⟩

/-- A request DRV_DATA builds has an active tag (44_driver.md R206). -/
theorem buildData_answer (app : Bytes) (s : State) : ∃ answer alloc,
    buildData app s = (answer, { s with env.alloc := alloc }) ∧ ∀ f tag, answer = .ok f tag → tag ≠ .inactive := by
  unfold buildData
  split
  · obtain ⟨answer, alloc, h, htag⟩ := buildFrame_answer _ _ (s.build.optDl ++ app) .dlData s
    exact ⟨answer, alloc, h, fun f g hok => by simp [htag f g hok]⟩
  · obtain ⟨answer, alloc, h, htag⟩ := buildFrame_answer _ _ (s.build.optPhy ++ app) .phyData s
    exact ⟨answer, alloc, h, fun f g hok => by simp [htag f g hok]⟩

/-- What SEND_APP answers, and what it leaves (46_session.md R267). -/
theorem sendApp_cases (app : Bytes) (s : State) : ∃ alloc,
    (∃ e, sendApp app s = .err e { s with env.alloc := alloc }) ∨
    (∃ r, sendApp app s = .fatal r { s with env.alloc := alloc }) ∨
    (∃ f tag, tag ≠ .inactive ∧ seqIdle s = true ∧
      sendApp app s = .ok { s with env.alloc := alloc, seq.tag := tag, seq.frame := some f }) := by
  obtain ⟨answer, alloc, h, htag⟩ := buildData_answer app s
  refine ⟨alloc, ?_⟩
  unfold sendApp
  rw [h]
  cases answer with
  | err e => exact .inl ⟨e, rfl⟩
  | fatal r => exact .inr (.inl ⟨r, rfl⟩)
  | ok f tag =>
    by_cases hidle : seqIdle s = true
    · have hidle' : seqIdle { s with env.alloc := alloc } = true := hidle
      exact .inr (.inr ⟨f, tag, htag f tag rfl, hidle, by simp [seqEnqueue, hidle']⟩)
    · have hbusy : ¬ seqIdle { s with env.alloc := alloc } = true := hidle
      exact .inr (.inl ⟨.seqEnqueueBusy, by simp [hbusy]⟩)

theorem ldrSend_move (app : Bytes) (next : LdrState) (s : State) : SessionMove s (ldrSend app next s) := by
  obtain ⟨alloc, ⟨e, h⟩ | ⟨r, h⟩ | ⟨f, tag, hactive, hidle, h⟩⟩ := sendApp_cases app s <;> simp only [ldrSend, h]
  · exact .aside
  · exact .aside
  · exact ⟨{}, rfl, .takes f tag hidle hactive rfl rfl⟩

theorem flwReply_move (app : Bytes) (s : State) : SessionMove s (flwReply app s) := by
  obtain ⟨alloc, ⟨e, h⟩ | ⟨r, h⟩ | ⟨f, tag, hactive, hidle, h⟩⟩ := sendApp_cases app s <;> simp only [flwReply, h]
  · exact .aside
  · exact .aside
  · exact ⟨{}, rfl, .takes f tag hidle hactive rfl rfl⟩

theorem ldrOnApp_move (app : Bytes) (s : State) : SessionMove s (ldrOnApp app s) := by
  unfold ldrOnApp
  split
  · exact .aside
  split
  · exact .aside
  · exact inbound_move s (by simp)
  · exact .aside
  · exact .aside

theorem flwOnApp_move (app : Bytes) (s : State) : SessionMove s (flwOnApp app s) := by
  unfold flwOnApp
  split
  · exact .aside
  split
  · exact inbound_move s (by simp)
  · split <;> exact .aside
  · exact .aside
  · exact .aside

/-- DRV_RECEIVE_FRAME writes q_ind alone (44_driver.md R207). -/
theorem receiveFrame_answer (s : State) : ∃ f ind, receiveFrame s = (f, { s with q.ind := ind }) := by
  unfold receiveFrame
  split
  · exact ⟨none, s.q.ind, rfl⟩
  · exact ⟨_, _, rfl⟩

theorem enqueueUsbIn_answer (b : Bytes) (s : State) : ∃ usbIn, enqueueUsbIn b s = { s with q.usbIn := usbIn } := by
  rcases enqueueUsbIn_cases b s with ⟨_, h⟩ | ⟨_, h⟩
  · exact ⟨_, h⟩
  · exact ⟨s.q.usbIn, h⟩

theorem ldrBody_move (s : State) : SessionMove s (ldrBody s) := by
  unfold ldrBody
  split
  · exact .aside
  · exact seqStart_move _ s
  · exact seqStart_move _ s
  · exact .aside

theorem ldrStep_move (p : LdrPoint) (s : State) : SessionMove s (ldrStep p s) := by
  cases p <;> unfold ldrStep
  case checkBackoff => dsimp only; split <;> exact .aside
  case disarmBackoff => exact (ldrBody_move _).after
  case takeOut =>
    dsimp only
    split
    · exact (ldrSend_move _ _ _).after
    · split
      · exact ldrSend_move _ _ s
      · exact .aside
  case armFail => exact .aside
  case armPing => exact .aside
  case checkPing => dsimp only; split <;> exact .aside
  case takeInd =>
    obtain ⟨f, ind, h⟩ := receiveFrame_answer s
    simp only [h]
    cases f
    · exact .aside
    · exact (ldrOnApp_move _ _).after
  case putIn d =>
    obtain ⟨usbIn, h⟩ := enqueueUsbIn_answer d s
    simp only [h]
    exact .aside

theorem flwStep_move (p : FlwPoint) (s : State) : SessionMove s (flwStep p s) := by
  cases p <;> unfold flwStep
  case takeInd =>
    obtain ⟨f, ind, h⟩ := receiveFrame_answer s
    simp only [h]
    cases f
    · exact .aside
    · exact (flwOnApp_move _ _).after
  case putIn d =>
    obtain ⟨usbIn, h⟩ := enqueueUsbIn_answer d s
    simp only [h]
    exact .aside
  case takeOut =>
    dsimp only
    split
    · exact (flwReply_move _ _).after
    · exact flwReply_move _ s

theorem initStep_move (p : InitPoint) (s : State) : SessionMove s (initStep p s) := by
  cases p <;> unfold initStep
  case lineLow | armLow | lineHigh | armPoll | disarm | rearm => exact .aside
  case checkLow | checkPoll => dsimp only; split <;> exact .aside
  case takeInd =>
    obtain ⟨f, ind, h⟩ := receiveFrame_answer s
    simp only [h]
    cases f <;> exact .aside

/-! ### Where a task event begins -/

theorem sessionStart_move (s : State) : SessionMove s (sessionStart s) := by
  unfold sessionStart
  split
  · unfold ldrStart
    split
    · exact .aside
    · exact ldrBody_move s
  · unfold flwStart
    split
    · exact .aside
    · exact seqStart_move _ s

theorem initStart_move {s : State} (h : s.task = none) : SessionMove s (initStart s) := by
  unfold initStart
  split
  · exact .aside
  · exact .aside
  · exact .aside
  · exact .aside { task := noPoll_of_none h }

theorem onApp_move (app : Bytes) (s : State) : SessionMove s (onApp app s) := by
  unfold onApp
  split
  · exact ldrOnApp_move app s
  · exact flwOnApp_move app s

/-! ### SEQ_POLL -/

/-- The signal a primitive step of SEQ_POLL writes (45_sequencer.md R232, R234, R235). -/
def pollSignals (p : SeqPoint) (g : Signals) : Signals :=
  match p with
  | .clearDone => { g with txDone := false }
  | .setStatusWait => { g with statusWait := true }
  | .enableIrq => { g with txIe := true }
  | .signalActive => { g with txActive := true }
  | .setAckWait => { g with ackWait := true }
  | _ => g

/-- The stage a primitive step moves the sequencer on to while its request stays active (45_sequencer.md R232-R236). -/
def nextStage : SeqPoint → Option SeqState
  | .setStatusWait => some .waitStatusFrame
  | .signalActive => some .waitTxFrameDone
  | .setAckWait => some .waitAck
  | .armCnf => some .waitCnf
  | _ => none

/-- The primitive steps that may follow one within its stage (45_sequencer.md R232-R237). -/
def onward : SeqPoint → List SeqPoint
  | .clearDone => [.drain]
  | .drain => [.drain, .lineLow]
  | .lineLow => [.armStatus]
  | .armStatus => [.setStatusWait]
  | .takeStatus => [.busyLine, .release, .checkStatus]
  | .checkStatus => [.noStatusLine]
  | .enableIrq => [.signalActive]
  | .readDone => [.armAck]
  | .armAck => [.setAckWait]
  | .takeAck => [.armCnf, .checkAck]
  | .takeCnf => [.checkCnf]
  | _ => []

theorem onward_same_stage {p p' : SeqPoint} (k : Caller) (h : p' ∈ onward p) :
    stageOf p' = stageOf p ∧ justReleased (some (.seq k p')) = justReleased (some (.seq k p)) := by
  cases p <;> simp only [onward, List.mem_cons, List.not_mem_nil, or_false] at h
  case drain => rcases h with rfl | rfl <;> exact ⟨rfl, rfl⟩
  case takeStatus => rcases h with rfl | rfl | rfl <;> exact ⟨rfl, rfl⟩
  case takeAck => rcases h with rfl | rfl <;> exact ⟨rfl, rfl⟩
  all_goals subst h; exact ⟨rfl, rfl⟩

/-- Moving on leaves the frame where it is: held before the release, and gone after it. -/
theorem frame_held_of_nextStage {p : SeqPoint} {st : SeqState} (k : Caller) (h : nextStage p = some st) :
    stageOf p = .txreqLow ∨ (stageOf p = .waitStatusFrame ∧ justReleased (some (.seq k p)) = false) ↔
      st = .txreqLow ∨ st = .waitStatusFrame := by
  cases p <;> cases h <;> simp [stageOf, justReleased]

/-- Where a primitive step `p` of SEQ_POLL, which wrote `u` from `s`, leads to: another step of its stage; the two steps that signal
a frame just released (45_sequencer.md R234), or TX_QUEUE_FULL; back to the caller with WouldBlock, in the same stage or the next; or
back to the caller with the exchange's result, the sequencer idle (R239). -/
inductive SeqMove (k : Caller) (p : SeqPoint) (s u : State) : State → Prop
  | goesOn (p' : SeqPoint) (next : p' ∈ onward p) (state : u.seq.state = s.seq.state) (tag : u.seq.tag = s.seq.tag)
      (frame : u.seq.frame = s.seq.frame) : SeqMove k p s u (goto (.seq k p') u)
  | releases (f : Frame) (point : p = .release) (held : s.seq.frame = some f) (seq : u.seq = { s.seq with frame := none }) :
      SeqMove k p s u (goto (.seq k .enableIrq) u)
  | queueFull (point : p = .release) (same : u = s) : SeqMove k p s u (raiseInTask .txQueueFull u)
  | waits (released : justReleased (some (.seq k p)) = false) (same : u = s) : SeqMove k p s u (seqReturn k .wouldBlock u)
  | advances (state : nextStage p = some u.seq.state) (tag : u.seq.tag = s.seq.tag) (frame : u.seq.frame = s.seq.frame) :
      SeqMove k p s u (seqReturn k .wouldBlock u)
  | finishes (r : PollResult) (result : r ≠ .wouldBlock) (released : justReleased (some (.seq k p)) = false) :
      SeqMove k p s u (seqFinish k r u)

theorem confirmation_ne_wouldBlock (b : Build) (tag : SenderTag) (c : Frame) : confirmation b tag c ≠ .wouldBlock := by
  unfold confirmation
  split
  · simp
  split
  · split <;> simp
  · simp

/-- All that a primitive step of SEQ_POLL can do (45_sequencer.md R232-R238). -/
theorem seqStep_cases {k : Caller} {p : SeqPoint} {s t : State} (h : seqStep k p s = .next t) :
    ∃ u, SeqMove k p s u t ∧ TaskLeaves s u ∧ u.sig = pollSignals p s.sig := by
  cases p <;> unfold seqStep at h
  case clearDone | lineLow | armStatus | enableIrq | armAck =>
    cases h
    exact ⟨_, .goesOn _ (by simp [onward]) rfl rfl rfl, {}, rfl⟩
  case setStatusWait | signalActive | setAckWait | armCnf => cases h; exact ⟨_, .advances rfl rfl rfl, {}, rfl⟩
  case busyLine | noStatusLine => cases h; exact ⟨_, .finishes _ (by simp) rfl, {}, rfl⟩
  case drain =>
    dsimp only at h
    split at h <;> cases h <;> exact ⟨_, .goesOn _ (by simp [onward]) rfl rfl rfl, {}, rfl⟩
  case takeStatus =>
    dsimp only at h
    split at h <;> cases h
    · exact ⟨_, .goesOn _ (by split <;> simp [onward]) rfl rfl rfl, {}, rfl⟩
    · exact ⟨_, .goesOn _ (by simp [onward]) rfl rfl rfl, {}, rfl⟩
  case checkStatus | readDone =>
    cases h
    split
    · exact ⟨_, .goesOn _ (by simp [onward]) rfl rfl rfl, {}, rfl⟩
    · exact ⟨_, .waits rfl rfl, {}, rfl⟩
  case release =>
    dsimp only at h
    split at h
    · cases h
    · split at h <;> cases h
      · exact ⟨_, .queueFull rfl rfl, {}, rfl⟩
      · exact ⟨_, .releases _ rfl ‹_› rfl, {}, rfl⟩
  case takeAck =>
    dsimp only at h
    split at h <;> cases h
    · exact ⟨_, .finishes _ (by simp) rfl, {}, rfl⟩
    · exact ⟨_, .goesOn _ (by simp [onward]) rfl rfl rfl, {}, rfl⟩
    · exact ⟨_, .goesOn _ (by simp [onward]) rfl rfl rfl, {}, rfl⟩
  case takeCnf =>
    dsimp only at h
    split at h <;> cases h
    · exact ⟨_, .finishes _ (confirmation_ne_wouldBlock _ _ _) rfl, {}, rfl⟩
    · exact ⟨_, .goesOn _ (by simp [onward]) rfl rfl rfl, {}, rfl⟩
  case checkAck | checkCnf =>
    cases h
    split
    · exact ⟨_, .finishes _ (by simp) rfl, {}, rfl⟩
    · exact ⟨_, .waits rfl rfl, {}, rfl⟩

/-- Going on, returning and raising write the task event in progress and the registers of the caller alone. -/
theorem SeqMove.leaves {k : Caller} {p : SeqPoint} {s u t : State} (h : SeqMove k p s u t) : TaskLeaves u t ∧ t.sig = u.sig := by
  cases h with
  | goesOn | releases | queueFull => exact ⟨{}, rfl⟩
  | waits | advances => exact ⟨(seqReturn_aside k _ u).leaves, (seqReturn_aside k _ u).sig⟩
  | finishes r =>
    have hreturn := seqReturn_aside k r (seqToIdle u)
    exact ⟨TaskLeaves.trans {} hreturn.leaves, hreturn.sig⟩

/-! ### The sequencer's invariant -/

/-- 10_state.md R46 (b) and (c) as they are written, with no poll in progress. -/
def RequestCoherent (q : SeqRegs) : Prop :=
  (q.tag = .inactive → q.state = .txreqLow ∧ q.frame = none) ∧
  (q.tag ≠ .inactive → (q.frame.isSome = true ↔ q.state = .txreqLow ∨ q.state = .waitStatusFrame))

theorem NoPoll.seqCoherent_iff {s : State} (h : NoPoll s) : SeqCoherent s ↔ RequestCoherent s.seq := by
  simp only [SeqCoherent, RequestCoherent, h.not_justReleased, and_true]
  exact ⟨fun hs => ⟨hs.1, hs.2.1⟩, fun hs => ⟨hs.1, hs.2, fun k p hp => absurd hp (h k p)⟩⟩

theorem stageOf_seqEntry (st : SeqState) : stageOf (seqEntry st) = st := by cases st <;> rfl

theorem seqEntry_not_justReleased (k : Caller) (st : SeqState) : justReleased (some (.seq k (seqEntry st))) = false := by
  cases st <;> rfl

/-- The session and DRV_INIT keep R46 (b) and (c): a request is taken only by an idle sequencer, and a poll begins in its own stage. -/
theorem SessionMove.keeps_seqCoherent {s t : State} (h : SessionMove s t) (hp : NoPoll s) (hs : SeqCoherent s) :
    SeqCoherent t := by
  have hreq := hp.seqCoherent_iff.mp hs
  cases h.control with
  | leaves seq task => exact task.seqCoherent_iff.mpr (seq ▸ hreq)
  | takes f tag idle active seq task =>
    obtain ⟨hstate, -⟩ : s.seq.state = .txreqLow ∧ s.seq.tag = .inactive := by simpa [seqIdle] using idle
    exact (noPoll_of_none task).seqCoherent_iff.mpr (by simp [RequestCoherent, seq, active, hstate])
  | polls k active seq task =>
    refine ⟨seq ▸ hreq.1, fun hactive => ?_, fun k' p hpoint => ?_⟩
    · rw [seq, task, seqEntry_not_justReleased]
      simpa using hreq.2 active
    · obtain ⟨rfl, rfl⟩ : k = k' ∧ seqEntry s.seq.state = p := by simpa [task] using hpoint
      exact ⟨seq ▸ active, by rw [seq, stageOf_seqEntry]⟩

/-- A primitive step of SEQ_POLL keeps R46 (b) and (c): the frame leaves seq_frame at the release, and the tag at the result. -/
theorem SeqMove.keeps_seqCoherent {k : Caller} {p : SeqPoint} {s u t : State} (h : SeqMove k p s u t)
    (htask : s.task = some (.seq k p)) (hs : SeqCoherent s) : SeqCoherent t := by
  obtain ⟨-, hframe, hpoint⟩ := hs
  obtain ⟨hactive, hstage⟩ := hpoint k p htask
  specialize hframe hactive
  rw [htask] at hframe
  have returns {v : State} (r : PollResult) (hv : RequestCoherent v.seq) : SeqCoherent (seqReturn k r v) := by
    have ha := seqReturn_aside k r v
    exact ha.task.seqCoherent_iff.mpr (ha.seq ▸ hv)
  cases h with
  | goesOn p' next state tag frame =>
    obtain ⟨stage, released⟩ := onward_same_stage k next
    refine ⟨fun hinactive => absurd (tag ▸ hinactive) hactive, fun _ => ?_, fun k' q hq => ?_⟩
    · simpa [state, frame, released] using hframe
    · obtain ⟨rfl, rfl⟩ : k = k' ∧ p' = q := by simpa using hq
      exact ⟨by simpa [tag] using hactive, by simp [state, hstage, stage]⟩
  | releases f point held seq =>
    subst point
    refine ⟨fun hinactive => absurd (by simpa [seq] using hinactive) hactive, fun _ => ?_, fun k' q hq => ?_⟩
    · simp [seq, hstage, stageOf, justReleased]
    · obtain ⟨rfl, rfl⟩ : k = k' ∧ SeqPoint.enableIrq = q := by simpa using hq
      exact ⟨by simpa [seq] using hactive, by simp [seq, hstage, stageOf]⟩
  | queueFull point same =>
    subst point same
    refine (noPoll_of_none rfl).seqCoherent_iff.mpr ⟨fun hinactive => absurd hinactive hactive, fun _ => ?_⟩
    simpa [justReleased] using hframe
  | waits released same =>
    subst same
    refine returns _ ⟨fun hinactive => absurd hinactive hactive, fun _ => ?_⟩
    simpa [released] using hframe
  | advances state tag frame =>
    refine returns _ ⟨fun hinactive => absurd (tag ▸ hinactive) hactive, fun _ => ?_⟩
    rw [frame, hframe, hstage]
    exact frame_held_of_nextStage k state
  | finishes r => exact returns _ (by simp [RequestCoherent])

/-! ### One primitive step of any task event -/

/-- A primitive step is one of SEQ_POLL's, or a move of the session or of DRV_INIT. -/
theorem taskStep_cases {p : TaskPoint} {s t : State} (h : taskStep p s = .next t) :
    (∃ k q u, p = .seq k q ∧ SeqMove k q s u t ∧ TaskLeaves s u ∧ u.sig = pollSignals q s.sig) ∨
    ((∀ k q, p ≠ .seq k q) ∧ SessionMove s t) := by
  cases p with
  | init p => cases h; exact .inr ⟨by simp, initStep_move p s⟩
  | ldr p => cases h; exact .inr ⟨by simp, ldrStep_move p s⟩
  | flw p => cases h; exact .inr ⟨by simp, flwStep_move p s⟩
  | seq k q =>
    obtain ⟨u, hmove, hleaves, hsig⟩ := seqStep_cases h
    exact .inl ⟨k, q, u, rfl, hmove, hleaves, hsig⟩

theorem taskStep_leaves {p : TaskPoint} {s t : State} (h : taskStep p s = .next t) : TaskLeaves s t := by
  rcases taskStep_cases h with ⟨_, _, _, _, hmove, hleaves, _⟩ | ⟨_, hmove⟩
  · exact hleaves.trans hmove.leaves.1
  · exact hmove.leaves

theorem taskStep_keeps_seqCoherent {p : TaskPoint} {s t : State} (htask : s.task = some p) (hs : SeqCoherent s)
    (h : taskStep p s = .next t) : SeqCoherent t := by
  rcases taskStep_cases h with ⟨k, q, u, rfl, hmove, _, _⟩ | ⟨hp, hmove⟩
  · exact hmove.keeps_seqCoherent htask hs
  · exact hmove.keeps_seqCoherent (by simpa [NoPoll, htask] using hp) hs

/-- The guard of R234 is unreachable: a poll about to release its frame holds it. -/
theorem taskStep_no_fault {p : TaskPoint} {s : State} (htask : s.task = some p) (hs : SeqCoherent s) (r : Fault) :
    taskStep p s ≠ .fault r := by
  intro h
  obtain ⟨k, rfl, hnone, -⟩ := taskStep_fault h
  obtain ⟨-, hframe, hpoint⟩ := hs
  obtain ⟨hactive, hstage⟩ := hpoint k .release htask
  have hheld : s.seq.frame.isSome = true := (hframe hactive).mpr (.inr ⟨hstage, by rw [htask]; rfl⟩)
  simp [hnone] at hheld

/-! ### tx_ie and tx_active -/

theorem irqImpliesActive_of_active {s : State} (h : s.sig.txActive = true) : IrqImpliesActive s := fun _ => .inl h

theorem IrqImpliesActive.of_eq {s t : State} (hs : IrqImpliesActive s) (hie : t.sig.txIe = s.sig.txIe)
    (hactive : t.sig.txActive = s.sig.txActive) (htask : t.task = s.task) : IrqImpliesActive t := by
  unfold IrqImpliesActive at *
  rwa [hie, hactive, htask]

/-- Away from the point between the two writes of R234, R46 (a) holds as it is written. -/
theorem IrqImpliesActive.active {s : State} (hs : IrqImpliesActive s) (hp : ∀ k, s.task ≠ some (.seq k .signalActive))
    (hie : s.sig.txIe = true) : s.sig.txActive = true := by
  rcases hs hie with h | ⟨k, hk⟩
  · exact h
  · exact absurd hk (hp k)

theorem SessionMove.keeps_irq {s t : State} (h : SessionMove s t) (hp : NoPoll s) (hs : IrqImpliesActive s) :
    IrqImpliesActive t := by
  intro hie
  rw [h.sig] at hie ⊢
  exact .inl (hs.active (fun k => hp k _) hie)

/-- Only the two writes of R234 touch tx_ie and tx_active. -/
theorem pollSignals_irq {p : SeqPoint} (g : Signals) (henable : p ≠ .enableIrq) (hset : p ≠ .signalActive) :
    (pollSignals p g).txIe = g.txIe ∧ (pollSignals p g).txActive = g.txActive := by
  cases p
  case enableIrq => exact absurd rfl henable
  case signalActive => exact absurd rfl hset
  all_goals exact ⟨rfl, rfl⟩

/-- After the first write of R234 the poll stands at the second. -/
theorem SeqMove.enableIrq_task {k : Caller} {s u t : State} (h : SeqMove k .enableIrq s u t) :
    t.task = some (.seq k .signalActive) := by
  cases h with
  | goesOn p' next => simpa [onward] using next
  | releases f point => cases point
  | queueFull point => cases point
  | waits released => cases released
  | advances state => cases state
  | finishes r result released => cases released

/-- A primitive step keeps "tx_ie implies tx_active", but between the two writes of R234 (log entry 20). -/
theorem taskStep_keeps_irq {p : TaskPoint} {s t : State} (htask : s.task = some p) (hs : IrqImpliesActive s)
    (h : taskStep p s = .next t) : IrqImpliesActive t := by
  rcases taskStep_cases h with ⟨k, q, u, rfl, hmove, _, hsig⟩ | ⟨hp, hmove⟩
  · have hsig' : t.sig = pollSignals q s.sig := hmove.leaves.2.trans hsig
    intro hie
    by_cases hset : q = .signalActive
    · subst hset
      exact .inl (by rw [hsig']; rfl)
    by_cases henable : q = .enableIrq
    · subst henable
      exact .inr ⟨k, hmove.enableIrq_task⟩
    · obtain ⟨hsame, hactive⟩ := pollSignals_irq s.sig henable hset
      rw [hsig', hsame] at hie
      exact .inl (by rw [hsig', hactive]; exact hs.active (by simpa [htask] using hset) hie)
  · exact hmove.keeps_irq (by simpa [NoPoll, htask] using hp) hs

/-! ### Runs of primitive steps -/

/-- A run whose invariant rules out the guard of every primitive step ends in no fault. -/
theorem runTask_no_fault {P : State → Prop}
    (hstep : ∀ p s s', s.task = some p → P s → taskStep p s = .next s' → P s')
    (hguard : ∀ p s r, s.task = some p → P s → taskStep p s ≠ .fault r) (n : Nat) (s : State) (r : Fault) (hs : P s) :
    runTask n s ≠ .fault r := by
  induction n generalizing s with
  | zero => simp
  | succ n ih =>
    rcases runTask_succ_cases n s with ⟨_, he⟩ | ⟨p, s', hp, hps, he⟩ | ⟨p, r', hp, hf, _⟩ | ⟨_, _, _, _, he⟩
    · simp [he]
    · rw [he]; exact ih s' (hstep p s s' hp hs hps)
    · exact absurd hf (hguard p s r' hp hs)
    · simp [he]

theorem runTask_rx {n : Nat} {s t : State} (h : runTask n s = .next t) : t.rx = s.rx :=
  runTask_keeps (P := fun u => u.rx = s.rx) (fun _ _ _ _ hu hstep => (taskStep_leaves hstep).rx.trans hu) n s t rfl h

/-- Where a run of primitive steps sets out: at the task event in progress, or, when none is, at one that begins. -/
inductive RunsFrom (s : State) : State → Prop
  | resumed (p : TaskPoint) (task : s.task = some p) : RunsFrom s s
  | begun (u : State) (task : s.task = none) (move : SessionMove s u) : RunsFrom s u

theorem RunsFrom.rx {s u : State} (h : RunsFrom s u) : u.rx = s.rx := by
  cases h with
  | resumed => rfl
  | begun _ _ move => exact move.leaves.rx

theorem RunsFrom.keeps_seqCoherent {s u : State} (h : RunsFrom s u) (hs : SeqCoherent s) : SeqCoherent u := by
  cases h with
  | resumed => exact hs
  | begun _ task move => exact move.keeps_seqCoherent (noPoll_of_none task) hs

theorem RunsFrom.keeps_irq {s u : State} (h : RunsFrom s u) (hs : IrqImpliesActive s) : IrqImpliesActive u := by
  cases h with
  | resumed => exact hs
  | begun _ task move => exact move.keeps_irq (noPoll_of_none task) hs

/-! ## Every instruction -/

/-- What the operations and the events of the host and the clock leave: of the signals they write ready_gate alone. -/
structure CallLeaves (s t : State) : Prop where
  build : t.build = s.build := by rfl
  rx : t.rx = s.rx := by rfl
  tx : t.tx = s.tx := by rfl
  line : t.line = s.line := by rfl
  ldr : t.ldr = s.ldr := by rfl
  flw : t.flw = s.flw := by rfl
  init : t.init = s.init := by rfl
  task : t.task = s.task := by rfl
  sig : t.sig = { s.sig with readyGate := t.sig.readyGate } := by rfl

/-- What an instruction can do, by the part of the engine it belongs to. -/
inductive Effect (i : Instr) (s : State) : Out → Prop
  | refused (r : Refusal) : Effect i s (.refused r)
  | reset (row : i = .reset) : Effect i s (.next (resetEngine s))
  | receives (bs : Bytes) (row : wireBytes s.build i = some bs) : Effect i s (.next (deliver bs s))
  | transmits (row : i = .txReady) : Effect i s (txReady s)
  | runs (n : Nat) (preempt : List Nat) (u : State) (begins : RunsFrom s u) :
      Effect i s (runTask n { u with env.preempt := preempt })
  | setsTimeout (id : TimeoutId) (ms : Word16) (row : i = .timeoutSet id ms) :
      Effect i s (.next (setTimeoutReg id (armed s ms.toNat) s))
  | disarmsTimeout (id : TimeoutId) (row : i = .timeoutDisarm id) :
      Effect i s (.next (setTimeoutReg id (getTimeoutReg id s).disarm s))
  | calls (t : State) (leaves : CallLeaves s t) : Effect i s (.next t)

section
variable {i : Instr} {s : State}

theorem Effect.ofLive {o : Out} (h : s.fatal = none → Effect i s o) : Effect i s (ifLive s o) := by
  unfold ifLive
  split
  · exact h ‹_›
  · exact .refused _

theorem Effect.call {t : State} (h : CallLeaves s t := by exact {}) : Effect i s (ifLive s (.next t)) := .ofLive fun _ => .calls t h

/-- A whole run, under the preemption schedule as it stands. -/
theorem Effect.run (n : Nat) {u : State} (h : RunsFrom s u) : Effect i s (runTask n u) := .runs n u.env.preempt u h

theorem runPreemptible_effect {u : State} (h : RunsFrom s u) : Effect i s (runPreemptible u) := by
  unfold runPreemptible
  split
  · exact .run _ h
  · exact .runs _ _ u h

theorem arrive_effect {bs : Bytes} (row : wireBytes s.build i = some bs) : Effect i s (arrive bs s) :=
  .ofLive fun _ => .receives bs row

theorem arriveFrame_effect {c : Byte} {stx : Stx} {p : Bytes}
    (row : wireBytes s.build i = some (serialise (commandFrame c stx p))) : Effect i s (arriveFrame c stx p s) := by
  unfold arriveFrame
  split
  · exact arrive_effect row
  · exact .refused _

theorem builder_effect (fits : Bool) (command : Byte) (p : Bytes) (tag : SenderTag) :
    Effect i s (ifLive s (.next (buildResult (buildFrame fits command p tag s)))) := by
  obtain ⟨answer, alloc, h, -⟩ := buildFrame_answer fits command p tag s
  rw [h]
  cases answer <;> exact .call

theorem execFrame_effect {stx : Stx} {command : Byte} {payload : Bytes} {lsb msb : Byte}
    (row : wireBytes s.build i =
      some (stx.byte :: BitVec.ofNat 8 payload.length :: command :: (payload ++ [lsb, msb]))) :
    Effect i s (execFrame stx command payload lsb msb s) := by
  unfold execFrame
  split
  · exact arrive_effect row
  · exact .refused _

theorem execDrvData_effect (buf : Bytes) : Effect i s (execDrvData buf s) := by
  unfold execDrvData buildData
  split <;> exact builder_effect _ _ _ _

theorem execDrvReceiveFrame_effect : Effect i s (execDrvReceiveFrame s) := by
  obtain ⟨f, ind, h⟩ := receiveFrame_answer s
  unfold execDrvReceiveFrame
  rw [h]
  split <;> exact .call

theorem execSeqEnqueue_effect (f : Frame) (tag : SenderTag) : Effect i s (execSeqEnqueue f tag s) := by
  refine .ofLive fun _ => ?_
  unfold seqEnqueue
  split
  · exact .refused _
  split
  · split <;> exact .calls _ {}
  · split
    · split <;> exact .calls _ {}
    · exact .calls _ {}

theorem execHostOutPush_effect (buf : Bytes) : Effect i s (execHostOutPush buf s) := by
  refine .ofLive fun _ => ?_
  split
  · rcases enqueueUsbOut_cases buf s with ⟨_, h⟩ | ⟨_, h⟩ <;> rw [h] <;> exact .calls _ {}
  · exact .refused _

theorem execHostInPop_effect : Effect i s (execHostInPop s) := by
  unfold execHostInPop
  split <;> exact .call

theorem execFrameNew_effect (start length command : Byte) (payload : Bytes) :
    Effect i s (execFrameNew start length command payload s) := by
  unfold execFrameNew
  split <;> exact .call

/-- The session reads a header only while no task event is in progress (70_reset_and_hazards.md R343). -/
theorem task_of_readsHeaders (h : readsHeaders s = true) : s.task = none := by
  simp only [readsHeaders, Bool.and_eq_true, Option.isNone_iff_eq_none] at h
  exact h.1.2

theorem readApp_effect (app : Bytes) : Effect i s (readApp app s) := by
  refine .ofLive fun _ => ?_
  split
  · exact .refused _
  case isFalse hreads =>
    have htask : s.task = none := task_of_readsHeaders (by simpa using hreads)
    split
    · exact .run _ (.begun _ htask (onApp_move app s))
    · exact .refused _

theorem execSessionPoll_effect : Effect i s (execSessionPoll s) := by
  refine .ofLive fun _ => ?_
  split
  · exact .refused _
  · exact runPreemptible_effect (.resumed _ ‹_›)
  · split
    · exact runPreemptible_effect (.begun _ ‹_› (sessionStart_move s))
    · exact .refused _

theorem execDrvInit_effect : Effect i s (execDrvInit s) := by
  refine .ofLive fun _ => ?_
  split
  · exact runPreemptible_effect (.resumed _ ‹_›)
  · exact .refused _
  · split
    · exact runPreemptible_effect (.begun _ ‹_› (initStart_move ‹_›))
    · exact .refused _

theorem execSeqPoll_effect : Effect i s (execSeqPoll s) := by
  refine .ofLive fun _ => ?_
  split
  · exact .calls _ {}
  · exact .run _ (.begun _ ‹_› (seqStart_move .direct s))

end

/-- Every instruction does what its part of the engine can do. -/
theorem exec_effect (i : Instr) (s : State) : Effect i s (exec i s) := by
  cases i
  case rxByte b => exact .ofLive fun hlive => deliver_singleton b hlive ▸ .receives [b] rfl
  case frame => exact execFrame_effect rfl
  case stxRequest | stxIndication | ack | nak | stxStatus | statusSequence | desync => exact arrive_effect rfl
  case resetReq | resetCnf | resetInd | resetErr | mibWriteReq | mibWriteCnf | mibWriteUnused2 | mibWriteErr | mibEraseReq |
      mibEraseCnf | mibEraseUnused2 | mibEraseErr | pingReq | pingCnf | pingUnused2 | pingErr | phyReq | phyCnf | phyInd |
      phyErr | dlReq | dlCnf | dlInd | dlErr | commandReserved => exact arriveFrame_effect rfl
  case txReady =>
    refine .ofLive fun _ => ?_
    split
    · exact .transmits rfl
    · exact .refused _
  case sessionPoll => exact execSessionPoll_effect
  case drvInit => exact execDrvInit_effect
  case seqPoll => exact execSeqPoll_effect
  case hdrIdle | hdrData | hdrPing => exact readApp_effect _
  case hdrReserved header _ => cases header <;> exact readApp_effect _
  case reset => exact .reset rfl
  case seqEnqueue f tag => exact execSeqEnqueue_effect f tag
  case drvResetReq | drvMibWrite | drvMibErase | drvPing | drvPhyData | drvDlData => exact builder_effect _ _ _ _
  case drvData buf => exact execDrvData_effect buf
  case drvReceiveFrame => exact execDrvReceiveFrame_effect
  case checksum | frameChecksum | frameSerialise => exact .call
  case frameNew => exact execFrameNew_effect _ _ _ _
  case hostOutPush buf => exact execHostOutPush_effect buf
  case hostInPop => exact execHostInPop_effect
  case timeoutSet t ms =>
    refine .ofLive fun _ => ?_
    split
    · exact .setsTimeout t ms rfl
    · exact .refused _
  case timeoutDisarm t =>
    refine .ofLive fun _ => ?_
    split
    · exact .disarmsTimeout t rfl
    · exact .refused _
  case drvSetReady | timeoutExpired =>
    refine .ofLive fun _ => ?_
    split
    · exact .calls _ {}
    · exact .refused _
  case uartShift | clockAdvance =>
    refine .ofLive fun _ => ?_
    split
    · exact .refused _
    · exact .calls _ {}

/-- One step: nothing is scheduled, the slot is no instruction, or the instruction runs with its slot taken off the trace. -/
theorem step_cases (s : State) : step s = .next s ∨ (∃ r, step s = .refused r) ∨
    ∃ i trace, fetch s = .instr i { s with env.trace := trace } ∧ step s = exec i { s with env.trace := trace } := by
  unfold step
  cases hf : fetch s with
  | idle => exact .inl rfl
  | bad r => exact .inr (.inl ⟨_, rfl⟩)
  | instr i u =>
    unfold fetch at hf
    split at hf
    · cases hf
    · split at hf <;> cases hf
      exact .inr (.inr ⟨_, _, rfl, rfl⟩)

theorem step_next_cases {s t : State} (h : step s = .next t) : t = s ∨
    ∃ i trace, fetch s = .instr i { s with env.trace := trace } ∧ exec i { s with env.trace := trace } = .next t := by
  rcases step_cases s with he | ⟨_, he⟩ | ⟨i, trace, hf, he⟩ <;> rw [he] at h
  · cases h; exact .inl rfl
  · cases h
  · exact .inr ⟨i, trace, hf, h⟩

theorem setTimeoutReg_sig_task (id : TimeoutId) (v : Timeout) (s : State) :
    (setTimeoutReg id v s).sig = s.sig ∧ (setTimeoutReg id v s).task = s.task := by
  cases id <;> exact ⟨rfl, rfl⟩

theorem setTimeoutReg_rx {id : TimeoutId} (v : Timeout) (s : State) (h : id ≠ .rx) : (setTimeoutReg id v s).rx = s.rx := by
  cases id
  case rx => exact absurd rfl h
  all_goals rfl

/-! ## The invariants at reset -/

section
variable (b : Build) (clock : Word32) (env : Env)

theorem atReset_wellFormed : WellFormedState (State.atReset b clock env) := by
  have hframes : FramesWellFormed (State.atReset b clock env) := by simp [FramesWellFormed, heldFrames, State.atReset]
  have hbuffers : BuffersBounded (State.atReset b clock env) := by simp [BuffersBounded, pendingInbound, State.atReset]
  have hseq : SeqCoherent (State.atReset b clock env) :=
    (noPoll_of_none rfl).seqCoherent_iff.mpr (by simp [RequestCoherent, State.atReset])
  exact ⟨by simp [QueuesBounded, State.atReset], hframes, hbuffers, trivial, rfl, hseq⟩

theorem atReset_irqImpliesActive : IrqImpliesActive (State.atReset b clock env) := by simp [IrqImpliesActive, State.atReset]

theorem atReset_timerArmed : TimerArmedInFrames (State.atReset b clock env) := by
  simp [TimerArmedInFrames, State.atReset, Timeout.disarmed]

theorem atReset_sessionCoherent : SessionCoherent (State.atReset b clock env) := by
  intro _
  cases hrole : b.role <;> simp [State.atReset, hrole]

theorem atReset_statusBounded : StatusBounded (State.atReset b clock env) := by
  simp [StatusBounded, statusLoad, pastDrain, State.atReset]

theorem atReset_ackBounded : AckBounded (State.atReset b clock env) := by simp [AckBounded, ackLoad, State.atReset]

theorem atReset_oneFrameInFlight : OneFrameInFlight (State.atReset b clock env) := by
  simp [OneFrameInFlight, framesInFlight, State.atReset]

end

/-- Settles O53: RESET's values meet every invariant, whatever the build, the clock's draw and what the environment has scheduled. -/
theorem invariantsAtReset : Obligations.InvariantsAtReset :=
  ⟨atReset_wellFormed _ _ _, atReset_irqImpliesActive _ _ _, atReset_timerArmed _ _ _, atReset_sessionCoherent _ _ _,
    atReset_statusBounded _ _ _, atReset_ackBounded _ _ _, atReset_oneFrameInFlight _ _ _⟩

/-! ## No guard is reached -/

theorem exec_no_fault {s : State} (htx : TxCoherent s.tx) (hseq : SeqCoherent s) (i : Instr) (r : Fault) :
    exec i s ≠ .fault r := by
  intro h
  have he := exec_effect i s
  generalize exec i s = o at he h
  cases he with
  | transmits => exact txReady_no_fault htx r h
  | runs n preempt u begins =>
    have hu : SeqCoherent { u with env.preempt := preempt } := begins.keeps_seqCoherent hseq
    exact runTask_no_fault (P := SeqCoherent) (fun _ _ _ => taskStep_keeps_seqCoherent) (fun _ _ r htask hs =>
      taskStep_no_fault htask hs r) n _ r hu h
  | refused | reset | receives | setsTimeout | disarmsTimeout | calls => cases h

/-- Settles O54: TX_READY's two guards are ruled out by the TX framer's registers, and SEQ_POLL's by the sequencer's invariant, which
every primitive step of a run keeps. -/
theorem noGuardFault : Obligations.NoGuardFault := by
  intro s r hwf h
  obtain ⟨-, -, -, -, htx, hseq⟩ := hwf
  rcases step_cases s with he | ⟨_, he⟩ | ⟨i, trace, -, he⟩ <;> rw [he] at h
  · cases h
  · cases h
  · exact exec_no_fault (s := { s with env.trace := trace }) htx hseq i r h

/-! ## tx_ie implies tx_active -/

theorem exec_keeps_irq {i : Instr} {s t : State} (hs : IrqImpliesActive s) (h : exec i s = .next t) : IrqImpliesActive t := by
  have he := exec_effect i s
  generalize exec i s = o at he h
  cases he with
  | refused => cases h
  | reset => cases h; exact atReset_irqImpliesActive _ _ _
  | receives bs =>
    cases h
    refine deliver_keeps (fun b s hs => ?_) bs s hs
    have hl := rxByte_leaves b s
    rcases hl.irq with ⟨hie, hactive⟩ | ⟨-, hactive⟩
    · exact hs.of_eq hie hactive hl.task
    · exact irqImpliesActive_of_active hactive
  | transmits =>
    have hl := txReady_leaves h
    rcases hl.irq with ⟨hie, hactive⟩ | ⟨hie, -⟩
    · exact hs.of_eq hie hactive hl.task
    · simp [IrqImpliesActive, hie]
  | runs n preempt u begins =>
    have hu : IrqImpliesActive { u with env.preempt := preempt } := begins.keeps_irq hs
    exact runTask_keeps (fun _ _ _ => taskStep_keeps_irq) n _ t hu h
  | setsTimeout id | disarmsTimeout id =>
    cases h
    obtain ⟨hsig, htask⟩ := setTimeoutReg_sig_task id _ s
    exact hs.of_eq (by rw [hsig]) (by rw [hsig]) htask
  | calls t leaves => cases h; exact hs.of_eq (by rw [leaves.sig]) (by rw [leaves.sig]) leaves.task

/-- Settles O55: tx_ie is set by ARM_REPLY, together with tx_active, and by a poll's first write of R234, which leaves it at the
second; both are cleared together. -/
theorem irqImpliesActiveKept : Obligations.IrqImpliesActiveKept := by
  intro s t hs h
  have ht : IrqImpliesActive t := by
    rcases step_next_cases h with rfl | ⟨i, trace, -, hexec⟩
    · exact hs
    · exact exec_keeps_irq (s := { s with env.trace := trace }) hs hexec
  exact ⟨ht, fun htask => ht.active (by simp [htask])⟩

/-! ## rx_tmo is armed exactly inside a frame -/

theorem exec_keeps_timerArmed {i : Instr} {s t : State} (hset : ∀ ms, i ≠ .timeoutSet .rx ms)
    (hdisarm : i ≠ .timeoutDisarm .rx) (hs : TimerArmedInFrames s) (h : exec i s = .next t) : TimerArmedInFrames t := by
  have he := exec_effect i s
  generalize exec i s = o at he h
  cases he with
  | refused => cases h
  | reset => cases h; exact atReset_timerArmed _ _ _
  | receives bs => cases h; exact deliver_keeps rxByte_timerArmed bs s hs
  | transmits => exact hs.of_rx (txReady_leaves h).rx
  | runs n preempt u begins => exact hs.of_rx ((runTask_rx h).trans begins.rx)
  | setsTimeout id ms row => cases h; exact hs.of_rx (setTimeoutReg_rx _ s fun hid => hset ms (hid ▸ row))
  | disarmsTimeout id row => cases h; exact hs.of_rx (setTimeoutReg_rx _ s fun hid => hdisarm (hid ▸ row))
  | calls t leaves => cases h; exact hs.of_rx leaves.rx

/-- Settles O56: every other part of the engine leaves the RX framer's registers, and each received byte keeps the invariant. -/
theorem timerArmedInFramesKept : Obligations.TimerArmedInFramesKept := by
  intro s t hs hrow h
  rcases step_next_cases h with rfl | ⟨i, trace, hf, hexec⟩
  · exact hs
  · obtain ⟨hset, hdisarm⟩ := hrow i _ hf
    exact exec_keeps_timerArmed (s := { s with env.trace := trace }) hset hdisarm hs hexec

end Sys2Proof.Machine
end

section
/-! PROOFS. What the engine stores is bounded and well-formed, and every step keeps it so, O52: the contents of the queues, of the two
framers and of the sequencer as one predicate, the queue primitives' rules for it, and one lemma for each operation that stores. -/
namespace Sys2Proof.Machine

/-! ## Bounded queues -/

/-- A queue within its capacity (20_memory.md R65) that holds only elements of one kind. -/
def QueueOf {α : Type} (cap : Nat) (P : α → Prop) (q : List α) : Prop := q.length ≤ cap ∧ ∀ v ∈ q, P v

section
variable {α : Type} {cap : Nat} {P : α → Prop} {q : List α} {v : α}

theorem QueueOf.push (hq : QueueOf cap P q) (room : q.length < cap) (hv : P v) : QueueOf cap P (q ++ [v]) := by
  refine ⟨by simpa using room, fun w hw => ?_⟩
  rcases List.mem_append.mp hw with hw | hw
  · exact hq.2 w hw
  · exact List.mem_singleton.mp hw ▸ hv

theorem dequeue_length_le {rest : List α} (h : dequeue q = some (v, rest)) (hq : q.length ≤ cap) : rest.length ≤ cap := by
  rw [dequeue_some h] at hq
  exact Nat.le_of_succ_le hq

theorem QueueOf.pop {rest : List α} (hq : QueueOf cap P q) (h : dequeue q = some (v, rest)) : P v ∧ QueueOf cap P rest := by
  obtain ⟨hlen, hall⟩ := hq
  rw [dequeue_some h] at hall
  exact ⟨hall v (by simp), dequeue_length_le h hlen, fun w hw => hall w (List.mem_cons_of_mem v hw)⟩

end

/-! ## What the engine stores -/

/-- The queues within their capacities, every frame held well-formed, every host buffer within its bounds (10_state.md R22, R36),
register by register. -/
structure Stored (s : State) : Prop where
  ind : QueueOf Config.capInd (frameWf · = true) s.q.ind
  cnf : QueueOf Config.capCnf (frameWf · = true) s.q.cnf
  status : s.q.status.length ≤ Config.capStatus
  ack : s.q.ack.length ≤ Config.capAck
  tx : QueueOf Config.capTx (frameWf · = true) s.q.tx
  usbOut : QueueOf Config.capUsbOut (fun b => 1 ≤ b.length ∧ b.length ≤ Config.maxPayload) s.q.usbOut
  usbIn : QueueOf Config.capUsbIn (·.length ≤ Config.maxPayload) s.q.usbIn
  txFrame : ∀ f ∈ s.tx.frame, frameWf f = true
  seqFrame : ∀ f ∈ s.seq.frame, frameWf f = true
  pending : ∀ b ∈ pendingInbound s.task, b.length ≤ Config.maxPayload

theorem framesWellFormed_iff (s : State) : FramesWellFormed s ↔
    (∀ f ∈ s.q.ind, frameWf f = true) ∧ (∀ f ∈ s.q.cnf, frameWf f = true) ∧ (∀ f ∈ s.q.tx, frameWf f = true) ∧
      (∀ f ∈ s.tx.frame, frameWf f = true) ∧ (∀ f ∈ s.seq.frame, frameWf f = true) := by
  simp [FramesWellFormed, heldFrames, or_imp, forall_and]

theorem stored_iff (s : State) : Stored s ↔ QueuesBounded s.q ∧ FramesWellFormed s ∧ BuffersBounded s := by
  rw [framesWellFormed_iff]
  constructor
  · intro h
    exact ⟨⟨h.ind.1, h.cnf.1, h.status, h.ack, h.tx.1, h.usbOut.1, h.usbIn.1⟩,
      ⟨h.ind.2, h.cnf.2, h.tx.2, h.txFrame, h.seqFrame⟩,
      h.usbOut.2, fun b hb => (List.mem_append.mp hb).elim (h.usbIn.2 b) (h.pending b)⟩
  · rintro ⟨⟨ind, cnf, status, ack, tx, usbOut, usbIn⟩, ⟨indWf, cnfWf, txWf, txFrame, seqFrame⟩, outFits, inFits⟩
    exact ⟨⟨ind, indWf⟩, ⟨cnf, cnfWf⟩, status, ack, ⟨tx, txWf⟩, ⟨usbOut, outFits⟩,
      ⟨usbIn, fun b hb => inFits b (List.mem_append_left _ hb)⟩, txFrame, seqFrame,
      fun b hb => inFits b (List.mem_append_right _ hb)⟩

theorem wellFormed_iff (s : State) : WellFormedState s ↔ Stored s ∧ RxCoherent s.rx ∧ TxCoherent s.tx ∧ SeqCoherent s := by
  rw [stored_iff]
  simp only [WellFormedState, and_assoc]

/-- The registers that `Stored` speaks of, but for the task event's. -/
def stores (s : State) : Queues × Option Frame × Option Frame := (s.q, s.tx.frame, s.seq.frame)

/-- A move that leaves every store, with what user data is pending after it. -/
theorem Stored.of_eq {s t : State} (h : Stored s) (same : stores t = stores s)
    (pending : ∀ b ∈ pendingInbound t.task, b.length ≤ Config.maxPayload) : Stored t := by
  obtain ⟨hq, htx, hseq⟩ : t.q = s.q ∧ t.tx.frame = s.tx.frame ∧ t.seq.frame = s.seq.frame := by simpa [stores] using same
  exact { ind := hq ▸ h.ind, cnf := hq ▸ h.cnf, status := hq ▸ h.status, ack := hq ▸ h.ack, tx := hq ▸ h.tx,
          usbOut := hq ▸ h.usbOut, usbIn := hq ▸ h.usbIn, txFrame := htx ▸ h.txFrame, seqFrame := hseq ▸ h.seqFrame,
          pending := pending }

/-- A move that leaves every store and has no user data pending after it. -/
theorem Stored.aside {s t : State} (h : Stored s) (same : stores t = stores s) (empty : pendingInbound t.task = []) : Stored t :=
  h.of_eq same (by simp [empty])

/-- A move that leaves every store, and the task event where it stands. -/
theorem Stored.same {s t : State} (h : Stored s) (same : stores t = stores s) (task : t.task = s.task) : Stored t :=
  h.of_eq same (task ▸ h.pending)

/-- A well-formed frame, check by check (10_state.md R22). -/
theorem frameWf_iff {f : Frame} : frameWf f = true ↔ f.payload.length ≤ Config.maxPayload ∧ f.length.toNat = f.payload.length ∧
    (stxOf f.start).isSome = true ∧ f.checksum = checksumOf f.command f.length f.payload := by
  simp [frameWf, and_assoc]

section
variable {s : State}

theorem enqueueInd_stored {f : Frame} (hf : frameWf f = true) (hs : Stored s) : Stored (enqueueInd f s) := by
  rcases enqueueInd_cases f s with ⟨room, h⟩ | ⟨_, h⟩ <;> rw [h]
  · exact { hs with ind := hs.ind.push room hf }
  · exact hs.same rfl rfl

theorem enqueueCnf_stored {f : Frame} (hf : frameWf f = true) (hs : Stored s) : Stored (enqueueCnf f s) := by
  rcases enqueueCnf_cases f s with ⟨room, h⟩ | ⟨_, h⟩ <;> rw [h]
  · exact { hs with cnf := hs.cnf.push room hf }
  · exact hs.same rfl rfl

theorem enqueueStatus_stored (b : Byte) (hs : Stored s) : Stored (enqueueStatus b s) := by
  rcases enqueueStatus_cases b s with ⟨room, h⟩ | ⟨_, h⟩ <;> rw [h]
  · exact { hs with status := by simpa using room }
  · exact hs.same rfl rfl

theorem enqueueAck_stored (r : Reply) (hs : Stored s) : Stored (enqueueAck r s) := by
  rcases enqueueAck_cases r s with ⟨room, h⟩ | ⟨_, h⟩ <;> rw [h]
  · exact { hs with ack := by simpa using room }
  · exact hs.same rfl rfl

theorem enqueueUsbOut_stored {b : Bytes} (hb : 1 ≤ b.length ∧ b.length ≤ Config.maxPayload) (hs : Stored s) :
    Stored (enqueueUsbOut b s) := by
  rcases enqueueUsbOut_cases b s with ⟨room, h⟩ | ⟨_, h⟩ <;> rw [h]
  · exact { hs with usbOut := hs.usbOut.push room hb }
  · exact hs

theorem enqueueUsbIn_stored {b : Bytes} (hb : b.length ≤ Config.maxPayload) (hs : Stored s) : Stored (enqueueUsbIn b s) := by
  rcases enqueueUsbIn_cases b s with ⟨room, h⟩ | ⟨_, h⟩ <;> rw [h]
  · exact { hs with usbIn := hs.usbIn.push room hb }
  · exact hs

/-- DRV_RECEIVE_FRAME takes a well-formed frame off q_ind, or finds none (44_driver.md R207). -/
theorem receiveFrame_stored (hs : Stored s) : Stored (receiveFrame s).2 ∧ ∀ f ∈ (receiveFrame s).1, frameWf f = true := by
  unfold receiveFrame
  split
  · exact ⟨hs, nofun⟩
  · obtain ⟨hf, hind⟩ := hs.ind.pop ‹_›
    exact ⟨{ hs with ind := hind }, by rintro _ ⟨⟩; exact hf⟩

/-! ## Reception -/

theorem route_stored {f : Frame} (hf : frameWf f = true) (hs : Stored s) : Stored (route f s) := by
  unfold route
  repeat' split
  · exact enqueueInd_stored hf hs
  · exact hs
  · exact enqueueCnf_stored hf hs
  · exact enqueueCnf_stored hf hs

theorem csumFail_stored (hs : Stored s) : Stored (csumFail s) := by
  unfold csumFail
  split
  · exact hs
  · exact hs.same rfl rfl

theorem rxReply_stored (r : Reply) (hs : Stored s) : Stored (rxReply r s) := by
  have henq := enqueueAck_stored r hs
  unfold rxReply
  split
  · dsimp only
    split
    · exact henq
    · exact henq.same rfl rfl
  · split <;> exact hs.same rfl rfl

/-- Stores and RX framer together: the frame a reception stores is the one its registers collected (42_rx_framer.md R160). -/
def RxSound (s : State) : Prop := Stored s ∧ RxCoherent s.rx

theorem rxRearm_sound (hs : RxSound s) : RxSound (rxRearm s) := by
  unfold rxRearm
  split
  · exact ⟨hs.1.same rfl rfl, hs.2⟩
  · exact hs

theorem frameClosed_sound (hs : Stored s) : RxSound (frameClosed s) := ⟨hs.same rfl rfl, trivial⟩

theorem rxExpire_sound (hs : RxSound s) : RxSound (rxExpire s) := by
  unfold rxExpire
  split
  · exact frameClosed_sound hs.1
  · exact hs

theorem stxOf_of_classifyFirst {b : Byte} {t : Stx} (h : classifyFirst b = .start t) : stxOf b = some t := by
  unfold classifyFirst at h
  unfold stxOf
  split_ifs at h ⊢ <;> simp_all

theorem rxFrameStart_sound {b : Byte} (hb : (stxOf b).isSome = true) (hs : RxSound s) : RxSound (rxFrameStart b s) := by
  obtain ⟨ok, alloc, h⟩ := drawAlloc_answer s
  unfold rxFrameStart
  rw [h]
  cases ok
  · exact ⟨hs.1.same rfl rfl, hs.2⟩
  · exact ⟨hs.1.same rfl rfl, hb, rfl⟩

theorem rxFirstByte_sound (b : Byte) (hs : RxSound s) : RxSound (rxFirstByte b s) := by
  unfold rxFirstByte
  split
  · exact ⟨rxReply_stored _ hs.1, (rxReply_leaves _ s).2 ▸ hs.2⟩
  · unfold rxStatusMark
    split
    · exact ⟨hs.1.same rfl rfl, trivial⟩
    · exact ⟨hs.1.same rfl rfl, hs.2⟩
  · exact rxFrameStart_sound (by simp [stxOf_of_classifyFirst ‹_›]) hs
  · exact ⟨hs.1.same rfl rfl, hs.2⟩

theorem rxStatusValue_sound (b : Byte) (hs : RxSound s) : RxSound (rxStatusValue b s) := by
  have henq := enqueueStatus_stored b hs.1
  unfold rxStatusValue
  dsimp only
  split
  · exact ⟨henq, (enqueueStatus_leaves b s).2 ▸ hs.2⟩
  · exact ⟨henq.same rfl rfl, trivial⟩

/-- The frame the registers hold at a checksum that fits is well-formed: its length was collected byte by byte. -/
theorem rxFrame_wf {b : Byte} (hstart : (stxOf s.rx.start).isSome = true) (hlen : s.rx.data.length = s.rx.len.toNat)
    (hsum : (rxFrame s b).checksum = checksumOf s.rx.cmd s.rx.len s.rx.data) : frameWf (rxFrame s b) = true := by
  have hfits : s.rx.data.length ≤ Config.maxPayload := hlen ▸ Nat.le_of_lt_succ s.rx.len.isLt
  exact frameWf_iff.mpr ⟨hfits, hlen.symm, hstart, hsum⟩

theorem rxChecksumMsb_sound (b : Byte) (hst : s.rx.state = .checksumMsb) (hs : RxSound s) : RxSound (rxChecksumMsb b s) := by
  obtain ⟨hstored, hrx⟩ := hs
  obtain ⟨hstart, hlen⟩ : (stxOf s.rx.start).isSome = true ∧ s.rx.data.length = s.rx.len.toNat := by
    simpa only [RxCoherent, hst] using hrx
  obtain ⟨hclosed, hidle⟩ := frameClosed_sound hstored
  unfold rxChecksumMsb
  dsimp only
  split
  · have hroute := route_stored (rxFrame_wf hstart hlen ‹_›) hclosed
    have hrx := (route_leaves (rxFrame s b) (frameClosed s)).2 ▸ hidle
    split
    · exact ⟨hroute, hrx⟩
    · exact ⟨hroute.same rfl rfl, hrx⟩
  · exact ⟨csumFail_stored hclosed, (csumFail_leaves (frameClosed s)).2 ▸ hidle⟩

theorem rxDispatch_sound (b : Byte) (hs : RxSound s) : RxSound (rxDispatch b s) := by
  have hrx := hs.2
  unfold RxCoherent at hrx
  unfold rxDispatch
  split <;> rename_i hst <;> simp only [hst] at hrx
  case h_1 => exact rxFirstByte_sound b hs
  case h_2 => exact rxStatusValue_sound b hs
  case h_3 => exact rxRearm_sound ⟨hs.1.same rfl rfl, hrx⟩
  case h_4 =>
    obtain ⟨hstart, hnil⟩ := hrx
    refine rxRearm_sound ⟨hs.1.same rfl rfl, ?_⟩
    by_cases hzero : s.rx.len = 0
    · simp [RxCoherent, hstart, hnil, hzero]
    · have hpos : 0 < s.rx.len.toNat := by bv_omega
      simpa only [RxCoherent, if_neg hzero, hnil] using ⟨hstart, hpos⟩
  case h_5 =>
    obtain ⟨hstart, hlt⟩ := hrx
    refine rxRearm_sound ⟨hs.1.same rfl rfl, ?_⟩
    by_cases hlast : (s.rx.data ++ [b]).length = s.rx.len.toNat
    · simp only [RxCoherent, if_pos hlast]
      exact ⟨hstart, hlast⟩
    · simp only [RxCoherent, if_neg hlast]
      exact ⟨hstart, by simp at hlast ⊢; omega⟩
  case h_6 => exact rxRearm_sound ⟨hs.1.same rfl rfl, hrx⟩
  case h_7 => exact rxChecksumMsb_sound b hst hs

theorem rxByte_sound (b : Byte) (hs : RxSound s) : RxSound (rxByte b s) := rxDispatch_sound b (rxExpire_sound hs)

/-! ## Transmission -/

/-- Stores and TX framer together: the transmit states count the payload of the frame they hold (43_tx_framer.md R182-R188). -/
def TxSound (s : State) : Prop := Stored s ∧ TxCoherent s.tx

theorem txStart_sound {f : Frame} (hf : frameWf f = true) (hs : Stored s) : TxSound (txStart f s) :=
  ⟨{ hs with txFrame := by rintro _ ⟨⟩; exact hf }, rfl, rfl⟩

theorem txSendStx_sound (hs : TxSound s) : TxSound (txSendStx s) := by
  obtain ⟨hstored, htx⟩ := hs
  unfold txSendStx
  split
  · exact txStart_sound (hstored.txFrame _ ‹_›) hstored
  · split
    · exact ⟨hstored.same rfl rfl, htx⟩
    · obtain ⟨hf, hq⟩ := hstored.tx.pop ‹_›
      exact txStart_sound hf { hstored with tx := hq }

theorem txSendCommand_sound {f : Frame} (hf : s.tx.frame = some f) (hidx : s.tx.idx = 0) (hs : Stored s) :
    TxSound (txSendCommand f s) := by
  refine ⟨hs.same rfl rfl, ?_⟩
  obtain ⟨-, hlen, -⟩ := frameWf_iff.mp (hs.txFrame f hf)
  by_cases hzero : f.length = 0
  · simp [TxCoherent, txSendCommand, hzero, hf]
  · have hpos : 0 < f.payload.length := by rw [← hlen]; bv_omega
    simp only [TxCoherent, txSendCommand, if_neg hzero]
    exact ⟨f, hf, hidx ▸ hpos⟩

theorem txSendData_sound {f : Frame} {t : State} (hf : s.tx.frame = some f) (hs : Stored s) (h : txSendData f s = .next t) :
    TxSound t := by
  obtain ⟨-, hlen, -⟩ := frameWf_iff.mp (hs.txFrame f hf)
  unfold txSendData at h
  split at h <;> cases h
  refine ⟨hs.same rfl rfl, ?_⟩
  obtain ⟨hidx, -⟩ := List.getElem?_eq_some_iff.mp ‹f.payload[s.tx.idx]? = some _›
  by_cases hlast : s.tx.idx + 1 = f.length.toNat
  · simp [TxCoherent, hlast, hf]
  · have hnext : s.tx.idx + 1 < f.payload.length := by omega
    simpa [TxCoherent, hlast, hf] using hnext

theorem txReady_sound {t : State} (hs : TxSound s) (h : txReady s = .next t) : TxSound t := by
  obtain ⟨hstored, htx⟩ := hs
  unfold txReady at h
  split at h
  · cases h; exact ⟨hstored, htx⟩
  split at h
  · cases h; exact ⟨hstored.same rfl rfl, htx⟩
  split at h <;> rename_i hst
  case h_1 => cases h; exact txSendStx_sound ⟨hstored, htx⟩
  case h_7 => cases h; exact ⟨{ hstored with txFrame := nofun }, rfl⟩
  all_goals obtain ⟨f, hf, h⟩ := withTxFrame_next h; simp only [TxCoherent, hst] at htx
  case h_4 => exact txSendData_sound hf hstored h
  case h_3 => cases h; exact txSendCommand_sound hf htx.2 hstored
  all_goals cases h; exact ⟨hstored.same rfl rfl, htx⟩

end

/-! ## Task events -/

section
variable {s : State}

/-- A request a builder answers with is well-formed: FRAME_NEW built it (41_frame_codec.md R131). -/
theorem buildFrame_ok_wf {fits : Bool} {command : Byte} {p : Bytes} {tag g : SenderTag} {f : Frame}
    (h : (buildFrame fits command p tag s).1 = .ok f g) : frameWf f = true := by
  rcases buildFrame_cases fits command p tag s with ⟨_, he⟩ | ⟨_, _, he⟩ | ⟨_, _, f', hnew, he⟩ | ⟨_, _, _, he⟩ <;> rw [he] at h
  · cases h
  · cases h
  · cases h; exact (frameNew_some hnew).2
  · cases h

theorem buildData_ok_wf {app : Bytes} {tag : SenderTag} {f : Frame} (h : (buildData app s).1 = .ok f tag) : frameWf f = true := by
  unfold buildData at h
  split at h <;> exact buildFrame_ok_wf h

/-- The frame SEND_APP hands to the sequencer is DRV_DATA's (46_session.md R267). -/
theorem sendApp_ok_wf {app : Bytes} {t : State} (h : sendApp app s = .ok t) : ∀ f ∈ t.seq.frame, frameWf f = true := by
  unfold sendApp at h
  split at h
  · cases h
  · cases h
  · rename_i f tag u hbuilt
    have hf : frameWf f = true := buildData_ok_wf (by rw [hbuilt])
    split at h <;> cases h
    unfold seqEnqueue
    rw [if_pos ‹_›]
    rintro _ ⟨⟩
    exact hf

theorem seqStart_stored (k : Caller) (hs : Stored s) : Stored (seqStart k s) := by
  unfold seqStart
  split <;> exact hs.aside rfl rfl

theorem seqReturn_stored (k : Caller) (r : PollResult) (hs : Stored s) : Stored (seqReturn k r s) := by
  unfold seqReturn
  repeat' split
  all_goals exact hs.aside rfl rfl

theorem seqFinish_stored (k : Caller) (r : PollResult) (hs : Stored s) : Stored (seqFinish k r s) :=
  seqReturn_stored k r { hs with seqFrame := nofun }

theorem inbound_stored {put : TaskPoint} (hput : ∀ b ∈ pendingInbound (some put), b.length ≤ Config.maxPayload)
    (hs : Stored s) : Stored (inbound put s) := by
  obtain ⟨ok, alloc, h⟩ := drawAlloc_answer s
  unfold inbound
  rw [h]
  cases ok
  · exact hs.aside rfl rfl
  · exact { hs with pending := hput }

/-- The sequencer takes a well-formed frame and the task event ends. -/
theorem Stored.takes {f : Frame} {t : State} (h : Stored s) (hf : frameWf f = true)
    (same : stores t = (s.q, s.tx.frame, some f)) (ended : t.task = none) : Stored t := by
  have htaken : Stored { s with seq.frame := some f, task := none } :=
    { h with seqFrame := by rintro _ ⟨⟩; exact hf, pending := nofun }
  exact htaken.same same ended

theorem ldrSend_stored (app : Bytes) (next : LdrState) (hs : Stored s) : Stored (ldrSend app next s) := by
  obtain ⟨alloc, ⟨e, h⟩ | ⟨r, h⟩ | ⟨f, tag, -, -, h⟩⟩ := sendApp_cases app s <;> simp only [ldrSend, h]
  · exact hs.aside rfl rfl
  · exact hs.aside rfl rfl
  · exact hs.takes (sendApp_ok_wf h f rfl) rfl rfl

theorem flwReply_stored (app : Bytes) (hs : Stored s) : Stored (flwReply app s) := by
  obtain ⟨alloc, ⟨e, h⟩ | ⟨r, h⟩ | ⟨f, tag, -, -, h⟩⟩ := sendApp_cases app s <;> simp only [flwReply, h]
  · exact hs.aside rfl rfl
  · exact hs.aside rfl rfl
  · exact hs.takes (sendApp_ok_wf h f rfl) rfl rfl

theorem ldrOnApp_stored {app : Bytes} (happ : app.length ≤ Config.maxPayload) (hs : Stored s) : Stored (ldrOnApp app s) := by
  unfold ldrOnApp
  cases app with
  | nil => exact hs.aside rfl rfl
  | cons h d =>
    have hdata : ∀ b ∈ [d], b.length ≤ Config.maxPayload := by simpa using Nat.le_of_succ_le happ
    dsimp only
    split
    · exact hs.aside rfl rfl
    · exact inbound_stored hdata hs
    · exact hs.aside rfl rfl
    · exact hs.aside rfl rfl

theorem flwOnApp_stored {app : Bytes} (happ : app.length ≤ Config.maxPayload) (hs : Stored s) : Stored (flwOnApp app s) := by
  unfold flwOnApp
  cases app with
  | nil => exact hs.aside rfl rfl
  | cons h d =>
    have hdata : ∀ b ∈ [d], b.length ≤ Config.maxPayload := by simpa using Nat.le_of_succ_le happ
    dsimp only
    split
    · exact inbound_stored hdata hs
    · split <;> exact hs.aside rfl rfl
    · exact hs.aside rfl rfl
    · exact hs.aside rfl rfl

theorem onApp_stored {app : Bytes} (happ : app.length ≤ Config.maxPayload) (hs : Stored s) : Stored (onApp app s) := by
  unfold onApp
  split
  · exact ldrOnApp_stored happ hs
  · exact flwOnApp_stored happ hs

theorem ldrBody_stored (hs : Stored s) : Stored (ldrBody s) := by
  unfold ldrBody
  split
  · exact hs.aside rfl rfl
  · exact seqStart_stored _ hs
  · exact seqStart_stored _ hs
  · exact hs.aside rfl rfl

theorem sessionStart_stored (hs : Stored s) : Stored (sessionStart s) := by
  unfold sessionStart ldrStart flwStart
  repeat' split
  · exact hs.aside rfl rfl
  · exact ldrBody_stored hs
  · exact hs.aside rfl rfl
  · exact seqStart_stored _ hs

theorem initStart_stored (hs : Stored s) : Stored (initStart s) := by
  unfold initStart
  split
  · exact hs.aside rfl rfl
  · exact hs.aside rfl rfl
  · exact hs.aside rfl rfl
  · exact hs

/-- The application payload of a frame is no longer than the frame's. -/
theorem appPayload_fits (b : Build) {f : Frame} (hf : frameWf f = true) : (appPayload b f).length ≤ Config.maxPayload := by
  obtain ⟨hfits, -⟩ := frameWf_iff.mp hf
  exact (List.drop_sublist _ _).length_le.trans hfits

theorem initStep_stored (p : InitPoint) (hs : Stored s) : Stored (initStep p s) := by
  cases p <;> unfold initStep
  case lineLow | armLow | lineHigh | armPoll | disarm | rearm => exact hs.aside rfl rfl
  case checkLow | checkPoll => dsimp only; split <;> exact hs.aside rfl rfl
  case takeInd =>
    have hrest := (receiveFrame_stored hs).1
    dsimp only
    split <;> rename_i hreceived <;> rw [hreceived] at hrest <;> exact hrest.aside rfl rfl

theorem ldrStep_stored (p : LdrPoint) (htask : s.task = some (.ldr p)) (hs : Stored s) : Stored (ldrStep p s) := by
  cases p <;> unfold ldrStep
  case checkBackoff | checkPing => dsimp only; split <;> exact hs.aside rfl rfl
  case disarmBackoff => exact ldrBody_stored (hs.same rfl rfl)
  case takeOut =>
    dsimp only
    split
    · exact ldrSend_stored _ _ { hs with usbOut := (hs.usbOut.pop ‹_›).2 }
    · split
      · exact ldrSend_stored _ _ hs
      · exact hs.aside rfl rfl
  case armFail | armPing => exact hs.aside rfl rfl
  case takeInd =>
    have hreceive := receiveFrame_stored hs
    dsimp only
    split <;> rename_i hreceived <;> rw [hreceived] at hreceive
    · exact hreceive.1.aside rfl rfl
    · exact ldrOnApp_stored (appPayload_fits _ (hreceive.2 _ rfl)) hreceive.1
  case putIn d =>
    have hd : d.length ≤ Config.maxPayload := hs.pending d (by simp [htask, pendingInbound])
    exact (enqueueUsbIn_stored hd hs).aside rfl rfl

theorem flwStep_stored (p : FlwPoint) (htask : s.task = some (.flw p)) (hs : Stored s) : Stored (flwStep p s) := by
  cases p <;> unfold flwStep
  case takeInd =>
    have hreceive := receiveFrame_stored hs
    dsimp only
    split <;> rename_i hreceived <;> rw [hreceived] at hreceive
    · exact hreceive.1.aside rfl rfl
    · exact flwOnApp_stored (appPayload_fits _ (hreceive.2 _ rfl)) hreceive.1
  case putIn d =>
    have hd : d.length ≤ Config.maxPayload := hs.pending d (by simp [htask, pendingInbound])
    exact (enqueueUsbIn_stored hd hs).aside rfl rfl
  case takeOut =>
    dsimp only
    split
    · exact flwReply_stored _ { hs with usbOut := (hs.usbOut.pop ‹_›).2 }
    · exact flwReply_stored _ hs

theorem seqStep_stored {k : Caller} {p : SeqPoint} {t : State} (hs : Stored s) (h : seqStep k p s = .next t) : Stored t := by
  cases p <;> unfold seqStep at h
  case clearDone | lineLow | armStatus | enableIrq | armAck => cases h; exact hs.aside rfl rfl
  case setStatusWait | signalActive | setAckWait | armCnf => cases h; exact seqReturn_stored k _ (hs.same rfl rfl)
  case busyLine | noStatusLine => cases h; exact seqFinish_stored k _ (hs.same rfl rfl)
  case drain | takeStatus =>
    dsimp only at h
    split at h <;> cases h
    · exact { hs with status := dequeue_length_le ‹_› hs.status, pending := nofun }
    · exact hs.aside rfl rfl
  case checkStatus | readDone =>
    cases h
    split
    · exact hs.aside rfl rfl
    · exact seqReturn_stored k _ hs
  case release =>
    dsimp only at h
    split at h
    · cases h
    · have hf := hs.seqFrame _ ‹_›
      split at h <;> cases h
      · exact hs.aside rfl rfl
      · obtain ⟨room, rfl⟩ := enqueue_some ‹_›
        exact { hs with tx := hs.tx.push room hf, seqFrame := nofun, pending := nofun }
  case takeAck =>
    dsimp only at h
    split at h <;> cases h
    · exact seqFinish_stored k _ { hs with ack := dequeue_length_le ‹_› hs.ack }
    · exact { hs with ack := dequeue_length_le ‹_› hs.ack, pending := nofun }
    · exact hs.aside rfl rfl
  case takeCnf =>
    dsimp only at h
    split at h <;> cases h
    · exact seqFinish_stored k _ { hs with cnf := (hs.cnf.pop ‹_›).2 }
    · exact hs.aside rfl rfl
  case checkAck | checkCnf =>
    cases h
    split
    · exact seqFinish_stored k _ hs
    · exact seqReturn_stored k _ hs

theorem taskStep_stored {p : TaskPoint} {t : State} (htask : s.task = some p) (hs : Stored s) (h : taskStep p s = .next t) :
    Stored t := by
  cases p with
  | init p => cases h; exact initStep_stored p hs
  | ldr p => cases h; exact ldrStep_stored p htask hs
  | flw p => cases h; exact flwStep_stored p htask hs
  | seq k p => exact seqStep_stored hs h

end

/-! ## The whole state -/

/-- An outcome that answers a next state has the property; a fault or a refusal has it vacuously. -/
def Yields (P : State → Prop) (o : Out) : Prop := ∀ t, o = .next t → P t

section
variable {s : State} {P : State → Prop}

theorem yields_next {t : State} (ht : P t) : Yields P (.next t) := by rintro _ ⟨⟩; exact ht

theorem yields_refused (r : Refusal) : Yields P (.refused r) := by rintro _ ⟨⟩

theorem yields_ifLive {o : Out} (h : s.fatal = none → Yields P o) : Yields P (ifLive s o) :=
  fun t ht => h (ifLive_next ht).1 t (ifLive_next ht).2

theorem SeqCoherent.of_eq {t : State} (hs : SeqCoherent s) (seq : t.seq = s.seq) (task : t.task = s.task) : SeqCoherent t := by
  unfold SeqCoherent at *
  rwa [seq, task]

/-- A step of the task context leaves the framers, so stores and sequencer decide. -/
theorem TaskLeaves.keeps_wellFormed {t : State} (h : TaskLeaves s t) (hstored : Stored t) (hseq : SeqCoherent t)
    (hs : WellFormedState s) : WellFormedState t := by
  obtain ⟨-, hrx, htx, -⟩ := (wellFormed_iff s).mp hs
  exact (wellFormed_iff t).mpr ⟨hstored, h.rx ▸ hrx, h.tx ▸ htx, hseq⟩

theorem taskStep_keeps_wellFormed {p : TaskPoint} {t : State} (htask : s.task = some p) (hs : WellFormedState s)
    (h : taskStep p s = .next t) : WellFormedState t := by
  obtain ⟨hstored, -, -, hseq⟩ := (wellFormed_iff s).mp hs
  exact (taskStep_leaves h).keeps_wellFormed (taskStep_stored htask hstored h) (taskStep_keeps_seqCoherent htask hseq h) hs

theorem runTask_yields (n : Nat) (hs : WellFormedState s) : Yields WellFormedState (runTask n s) := fun t h =>
  runTask_keeps (fun _ _ _ => taskStep_keeps_wellFormed) n s t hs h

theorem WellFormedState.stored (hs : WellFormedState s) : Stored s := ((wellFormed_iff s).mp hs).1

/-- The registers beside the stores that `WellFormedState` speaks of. -/
def guards (s : State) : RxRegs × TxRegs × SeqRegs × Option TaskPoint := (s.rx, s.tx, s.seq, s.task)

/-- A move that leaves framers, sequencer and task event: the stores decide. -/
theorem WellFormedState.restored {t : State} (hs : WellFormedState s) (stored : Stored t) (same : guards t = guards s) :
    WellFormedState t := by
  obtain ⟨-, hrx, htx, hseq⟩ := (wellFormed_iff s).mp hs
  obtain ⟨rx, tx, seq, task⟩ : t.rx = s.rx ∧ t.tx = s.tx ∧ t.seq = s.seq ∧ t.task = s.task := by simpa [guards] using same
  exact (wellFormed_iff t).mpr ⟨stored, rx ▸ hrx, tx ▸ htx, hseq.of_eq seq task⟩

/-- A move that leaves the stores too. -/
theorem WellFormedState.same {t : State} (hs : WellFormedState s) (q : t.q = s.q) (same : guards t = guards s) :
    WellFormedState t := by
  obtain ⟨-, tx, seq, task⟩ : t.rx = s.rx ∧ t.tx = s.tx ∧ t.seq = s.seq ∧ t.task = s.task := by simpa [guards] using same
  exact hs.restored (hs.stored.same (by simp [stores, q, tx, seq]) task) same

theorem SessionMove.keeps_wellFormed {t : State} (h : SessionMove s t) (htask : s.task = none) (hstored : Stored t)
    (hs : WellFormedState s) : WellFormedState t := by
  obtain ⟨-, -, -, hseq⟩ := (wellFormed_iff s).mp hs
  exact h.leaves.keeps_wellFormed hstored (h.keeps_seqCoherent (noPoll_of_none htask) hseq) hs

theorem runPreemptible_yields (hs : WellFormedState s) : Yields WellFormedState (runPreemptible s) := by
  unfold runPreemptible
  split
  · exact runTask_yields _ hs
  · exact runTask_yields _ (hs.same rfl rfl)

theorem execSessionPoll_yields (hs : WellFormedState s) : Yields WellFormedState (execSessionPoll s) := by
  refine yields_ifLive fun _ => ?_
  split
  · exact yields_refused _
  · exact runPreemptible_yields hs
  · split
    · exact runPreemptible_yields ((sessionStart_move s).keeps_wellFormed ‹_› (sessionStart_stored hs.stored) hs)
    · exact yields_refused _

theorem execDrvInit_yields (hs : WellFormedState s) : Yields WellFormedState (execDrvInit s) := by
  refine yields_ifLive fun _ => ?_
  split
  · exact runPreemptible_yields hs
  · exact yields_refused _
  · split
    · exact runPreemptible_yields ((initStart_move ‹_›).keeps_wellFormed ‹_› (initStart_stored hs.stored) hs)
    · exact yields_refused _

theorem execSeqPoll_yields (hs : WellFormedState s) : Yields WellFormedState (execSeqPoll s) := by
  refine yields_ifLive fun _ => ?_
  split
  · exact yields_next (hs.same rfl rfl)
  · exact runTask_yields _ ((seqStart_move .direct s).keeps_wellFormed ‹_› (seqStart_stored _ hs.stored) hs)

theorem readApp_yields (app : Bytes) (hs : WellFormedState s) : Yields WellFormedState (readApp app s) := by
  refine yields_ifLive fun _ => ?_
  split
  · exact yields_refused _
  case isFalse hreads =>
    have htask : s.task = none := task_of_readsHeaders (by simpa using hreads)
    split
    · have happ : app.length ≤ Config.maxPayload := by omega
      exact runTask_yields _ ((onApp_move app s).keeps_wellFormed htask (onApp_stored happ hs.stored) hs)
    · exact yields_refused _

/-! ### Reception, transmission and the calls -/

theorem rxByte_keeps_wellFormed (b : Byte) (s : State) (hs : WellFormedState s) : WellFormedState (rxByte b s) := by
  obtain ⟨hstored, hrx, htx, hseq⟩ := (wellFormed_iff s).mp hs
  obtain ⟨hstored', hrx'⟩ := rxByte_sound b ⟨hstored, hrx⟩
  have hl := rxByte_leaves b s
  exact (wellFormed_iff _).mpr ⟨hstored', hrx', hl.tx ▸ htx, hseq.of_eq hl.seq hl.task⟩

theorem arrive_yields (bs : Bytes) (hs : WellFormedState s) : Yields WellFormedState (arrive bs s) :=
  yields_ifLive fun _ => yields_next (deliver_keeps rxByte_keeps_wellFormed bs s hs)

theorem arriveFrame_yields (c : Byte) (stx : Stx) (p : Bytes) (hs : WellFormedState s) :
    Yields WellFormedState (arriveFrame c stx p s) := by
  unfold arriveFrame
  split
  · exact arrive_yields _ hs
  · exact yields_refused _

theorem execFrame_yields (stx : Stx) (command : Byte) (payload : Bytes) (lsb msb : Byte) (hs : WellFormedState s) :
    Yields WellFormedState (execFrame stx command payload lsb msb s) := by
  unfold execFrame
  split
  · exact arrive_yields _ hs
  · exact yields_refused _

theorem txReady_yields (hs : WellFormedState s) : Yields WellFormedState (txReady s) := by
  intro t h
  obtain ⟨hstored, hrx, htx, hseq⟩ := (wellFormed_iff s).mp hs
  obtain ⟨hstored', htx'⟩ := txReady_sound ⟨hstored, htx⟩ h
  have hl := txReady_leaves h
  exact (wellFormed_iff _).mpr ⟨hstored', hl.rx ▸ hrx, htx', hseq.of_eq hl.seq hl.task⟩

theorem builder_yields (fits : Bool) (command : Byte) (p : Bytes) (tag : SenderTag) (hs : WellFormedState s) :
    Yields WellFormedState (ifLive s (.next (buildResult (buildFrame fits command p tag s)))) := by
  obtain ⟨answer, alloc, h, -⟩ := buildFrame_answer fits command p tag s
  rw [h]
  cases answer <;> exact yields_ifLive fun _ => yields_next (hs.same rfl rfl)

theorem execDrvData_yields (buf : Bytes) (hs : WellFormedState s) : Yields WellFormedState (execDrvData buf s) := by
  unfold execDrvData buildData
  split <;> exact builder_yields _ _ _ _ hs

theorem execDrvReceiveFrame_yields (hs : WellFormedState s) : Yields WellFormedState (execDrvReceiveFrame s) := by
  refine yields_ifLive fun _ => yields_next ?_
  split
  · exact hs.same rfl rfl
  · have hstored := (receiveFrame_stored hs.stored).1
    obtain ⟨f, ind, h⟩ := receiveFrame_answer s
    rw [h] at hstored ⊢
    exact hs.restored (hstored.same rfl rfl) rfl

theorem execFrameNew_yields (start length command : Byte) (payload : Bytes) (hs : WellFormedState s) :
    Yields WellFormedState (execFrameNew start length command payload s) := by
  refine yields_ifLive fun _ => yields_next ?_
  split <;> exact hs.same rfl rfl

theorem unstatedRequest_wf (n : Nat) : frameWf (unstatedRequest n) = true :=
  commandFrame_wf _ _ (List.length_take_le _ _)

/-- An idle sequencer takes an active request with its frame (45_sequencer.md R230). -/
theorem takes_wellFormed {f : Frame} {tag : SenderTag} (hidle : seqIdle s = true) (hactive : tag ≠ .inactive)
    (hf : frameWf f = true) (hs : WellFormedState s) : WellFormedState { s with seq.tag := tag, seq.frame := some f } := by
  obtain ⟨hstored, hrx, htx, -, -, hpoint⟩ := (wellFormed_iff s).mp hs
  obtain ⟨hstate, hinactive⟩ : s.seq.state = .txreqLow ∧ s.seq.tag = .inactive := by simpa [seqIdle] using hidle
  have hnopoll : NoPoll s := fun k p hp => (hpoint k p hp).1 hinactive
  refine (wellFormed_iff _).mpr ⟨{ hstored with seqFrame := by rintro _ ⟨⟩; exact hf }, hrx, htx, ?_⟩
  exact NoPoll.seqCoherent_iff (s := { s with seq.tag := tag, seq.frame := some f }) hnopoll |>.mpr
    (by simp [RequestCoherent, hactive, hstate])

theorem execSeqEnqueue_yields (f : Frame) (tag : SenderTag) (hs : WellFormedState s) :
    Yields WellFormedState (execSeqEnqueue f tag s) := by
  intro t h
  obtain ⟨-, hactive, ⟨-, rfl⟩ | ⟨hidle, hf, -, rfl⟩ | ⟨hidle, -, rfl⟩⟩ := execSeqEnqueue_next h
  · exact hs.same rfl rfl
  · exact takes_wellFormed hidle hactive hf hs
  · exact (takes_wellFormed hidle hactive (unstatedRequest_wf _) hs).same rfl rfl

theorem execHostOutPush_yields (buf : Bytes) (hs : WellFormedState s) : Yields WellFormedState (execHostOutPush buf s) := by
  refine yields_ifLive fun _ => ?_
  split
  case isTrue hbuf =>
    have hstored := enqueueUsbOut_stored (by simpa using hbuf) hs.stored
    refine yields_next ?_
    rcases enqueueUsbOut_cases buf s with ⟨_, h⟩ | ⟨_, h⟩ <;> rw [h] at hstored ⊢
    · exact hs.restored hstored rfl
    · exact hs
  case isFalse => exact yields_refused _

theorem execHostInPop_yields (hs : WellFormedState s) : Yields WellFormedState (execHostInPop s) := by
  have hstored := hs.stored
  refine yields_ifLive fun _ => yields_next ?_
  split
  · exact hs.same rfl rfl
  · exact hs.restored { hstored with usbIn := (hstored.usbIn.pop ‹_›).2 } rfl

theorem setTimeoutReg_keeps_wellFormed (id : TimeoutId) (v : Timeout) (hs : WellFormedState s) :
    WellFormedState (setTimeoutReg id v s) := by
  obtain ⟨hstored, hrx, htx, hseq⟩ := (wellFormed_iff s).mp hs
  refine (wellFormed_iff _).mpr ?_
  cases id <;> exact ⟨hstored.same rfl rfl, hrx, htx, hseq⟩

end

theorem exec_yields_wellFormed (i : Instr) {s : State} (hs : WellFormedState s) : Yields WellFormedState (exec i s) := by
  cases i
  case rxByte b => exact yields_ifLive fun _ => yields_next (rxByte_keeps_wellFormed b s hs)
  case frame => exact execFrame_yields _ _ _ _ _ hs
  case stxRequest | stxIndication | ack | nak | stxStatus | statusSequence | desync => exact arrive_yields _ hs
  case resetReq | resetCnf | resetInd | resetErr | mibWriteReq | mibWriteCnf | mibWriteUnused2 | mibWriteErr | mibEraseReq |
      mibEraseCnf | mibEraseUnused2 | mibEraseErr | pingReq | pingCnf | pingUnused2 | pingErr | phyReq | phyCnf | phyInd |
      phyErr | dlReq | dlCnf | dlInd | dlErr | commandReserved => exact arriveFrame_yields _ _ _ hs
  case txReady =>
    refine yields_ifLive fun _ => ?_
    split
    · exact txReady_yields hs
    · exact yields_refused _
  case sessionPoll => exact execSessionPoll_yields hs
  case drvInit => exact execDrvInit_yields hs
  case seqPoll => exact execSeqPoll_yields hs
  case hdrIdle | hdrData | hdrPing => exact readApp_yields _ hs
  case hdrReserved header _ => cases header <;> exact readApp_yields _ hs
  case reset => exact yields_next (atReset_wellFormed _ _ _)
  case seqEnqueue f tag => exact execSeqEnqueue_yields f tag hs
  case drvResetReq | drvMibWrite | drvMibErase | drvPing | drvPhyData | drvDlData => exact builder_yields _ _ _ _ hs
  case drvData buf => exact execDrvData_yields buf hs
  case drvReceiveFrame => exact execDrvReceiveFrame_yields hs
  case checksum | frameChecksum | frameSerialise => exact yields_ifLive fun _ => yields_next (hs.same rfl rfl)
  case frameNew => exact execFrameNew_yields _ _ _ _ hs
  case hostOutPush buf => exact execHostOutPush_yields buf hs
  case hostInPop => exact execHostInPop_yields hs
  case timeoutSet t _ | timeoutDisarm t =>
    refine yields_ifLive fun _ => ?_
    split
    · exact yields_next (setTimeoutReg_keeps_wellFormed t _ hs)
    · exact yields_refused _
  case drvSetReady | timeoutExpired =>
    refine yields_ifLive fun _ => ?_
    split
    · exact yields_next (hs.same rfl rfl)
    · exact yields_refused _
  case uartShift | clockAdvance =>
    refine yields_ifLive fun _ => ?_
    split
    · exact yields_refused _
    · exact yields_next (hs.same rfl rfl)

/-! ## The build parameters -/

theorem RunsFrom.build {s u : State} (h : RunsFrom s u) : u.build = s.build := by
  cases h with
  | resumed => rfl
  | begun _ _ move => exact move.leaves.build

/-- Nothing writes the build parameters (00_scope.md R8). -/
theorem exec_build {i : Instr} {s t : State} (h : exec i s = .next t) : t.build = s.build := by
  have he := exec_effect i s
  generalize exec i s = o at he h
  cases he with
  | refused => cases h
  | reset => cases h; rfl
  | receives bs =>
    cases h
    exact deliver_keeps (P := fun u => u.build = s.build) (fun b u hu => (rxByte_leaves b u).build.trans hu) bs s rfl
  | transmits => exact (txReady_leaves h).build
  | runs n preempt u begins =>
    have hu : { u with env.preempt := preempt }.build = s.build := begins.build
    exact runTask_keeps (P := fun v => v.build = s.build) (fun _ _ _ _ hv hstep => (taskStep_leaves hstep).build.trans hv)
      n _ t hu h
  | setsTimeout id | disarmsTimeout id => cases h; cases id <;> rfl
  | calls t leaves => cases h; exact leaves.build

/-- Settles O52: every part of the engine stores only well-formed frames and bounded buffers, in room it has checked, and leaves the
registers of its framer, of the sequencer and of the task event fitting their states. -/
theorem wellFormedStateKept : Obligations.WellFormedStateKept := by
  intro s t hs h
  rcases step_next_cases h with rfl | ⟨i, trace, -, hexec⟩
  · exact ⟨hs, rfl⟩
  · have hs' : WellFormedState { s with env.trace := trace } := hs.same rfl rfl
    exact ⟨exec_yields_wellFormed i hs' t hexec, exec_build (s := { s with env.trace := trace }) hexec⟩

end Sys2Proof.Machine
end

section
/-! PROOFS. A task event in progress, O39: no primitive step reads or writes the preemption schedule; every primitive step brings the
event closer to its end, in a bound that the fuel of a run covers; so a run of n + 1 steps is one step and a run of n. -/
namespace Sys2Proof.Machine

/-! ## The preemption schedule -/

/-- The state under another preemption schedule. -/
def scheduled (l : List Nat) (s : State) : State := { s with env.preempt := l }

/-- An outcome with its next state changed. -/
def onNext (f : State → State) : Out → Out
  | .next t => .next (f t)
  | .fault r => .fault r
  | .refused r => .refused r

/-- What SEND_APP answers, with the state it leaves changed. -/
def Sent.onState (f : State → State) : Sent → Sent
  | .ok t => .ok (f t)
  | .err e t => .err e (f t)
  | .fatal r t => .fatal r (f t)

section
variable (l : List Nat) (s : State)

@[simp] theorem scheduled_build : (scheduled l s).build = s.build := rfl
@[simp] theorem scheduled_q : (scheduled l s).q = s.q := rfl
@[simp] theorem scheduled_seq : (scheduled l s).seq = s.seq := rfl
@[simp] theorem scheduled_ldr : (scheduled l s).ldr = s.ldr := rfl
@[simp] theorem scheduled_self : scheduled s.env.preempt s = s := rfl

theorem ite_scheduled {l : List Nat} {c : Prop} [Decidable c] {a b a' b' : State} (ha : a' = scheduled l a)
    (hb : b' = scheduled l b) : (if c then a' else b') = scheduled l (if c then a else b) := by
  split
  · exact ha
  · exact hb

theorem next_scheduled {l : List Nat} {t t' : State} (h : t' = scheduled l t) :
    Host.Outcome.next t' = onNext (scheduled l) (.next t) := congrArg _ h

theorem drawAlloc_scheduled : drawAlloc (scheduled l s) = ((drawAlloc s).1, scheduled l (drawAlloc s).2) := by
  rw [drawAlloc_eq, drawAlloc_eq]
  rfl

theorem receiveFrame_scheduled : receiveFrame (scheduled l s) = ((receiveFrame s).1, scheduled l (receiveFrame s).2) := by
  simp only [receiveFrame, scheduled_q]
  cases dequeue s.q.ind <;> rfl

theorem enqueueUsbIn_scheduled (b : Bytes) : enqueueUsbIn b (scheduled l s) = scheduled l (enqueueUsbIn b s) := by
  simp only [enqueueUsbIn, scheduled_q]
  cases enqueue Config.capUsbIn s.q.usbIn b <;> rfl

theorem buildFrame_scheduled (fits : Bool) (command : Byte) (p : Bytes) (tag : SenderTag) :
    buildFrame fits command p tag (scheduled l s) =
      ((buildFrame fits command p tag s).1, scheduled l (buildFrame fits command p tag s).2) := by
  unfold buildFrame
  rw [drawAlloc_scheduled]
  rcases drawAlloc s with ⟨_ | _, t⟩
  · split <;> rfl
  · split
    · cases frameNew Config.stxRequest (BitVec.ofNat 8 p.length) command p <;> rfl
    · rfl

theorem buildData_scheduled (app : Bytes) :
    buildData app (scheduled l s) = ((buildData app s).1, scheduled l (buildData app s).2) := by
  simp only [buildData, scheduled_build]
  cases s.build.dataService <;> exact buildFrame_scheduled l s _ _ _ _

theorem sendApp_scheduled (app : Bytes) : sendApp app (scheduled l s) = (sendApp app s).onState (scheduled l) := by
  unfold sendApp
  rw [buildData_scheduled]
  rcases buildData app s with ⟨⟨f, tag⟩ | e | r, t⟩
  · by_cases hidle : seqIdle t = true
    · have hidle' : seqIdle (scheduled l t) = true := hidle
      simp only [seqEnqueue, if_pos hidle, if_pos hidle']
      rfl
    · have hbusy' : ¬ seqIdle (scheduled l t) = true := hidle
      simp only [if_neg hidle, if_neg hbusy']
      rfl
  · rfl
  · rfl

theorem seqStart_scheduled (k : Caller) : seqStart k (scheduled l s) = scheduled l (seqStart k s) :=
  ite_scheduled rfl rfl

theorem seqReturn_scheduled (k : Caller) (r : PollResult) : seqReturn k r (scheduled l s) = scheduled l (seqReturn k r s) := by
  unfold seqReturn
  repeat' split
  all_goals rfl

theorem seqFinish_scheduled (k : Caller) (r : PollResult) : seqFinish k r (scheduled l s) = scheduled l (seqFinish k r s) :=
  seqReturn_scheduled l (seqToIdle s) k r

theorem inbound_scheduled (put : TaskPoint) : inbound put (scheduled l s) = scheduled l (inbound put s) := by
  unfold inbound
  rw [drawAlloc_scheduled]
  rcases drawAlloc s with ⟨_ | _, t⟩ <;> rfl

theorem ldrSend_scheduled (app : Bytes) (next : LdrState) : ldrSend app next (scheduled l s) = scheduled l (ldrSend app next s) := by
  unfold ldrSend
  rw [sendApp_scheduled]
  cases sendApp app s <;> rfl

theorem flwReply_scheduled (app : Bytes) : flwReply app (scheduled l s) = scheduled l (flwReply app s) := by
  unfold flwReply
  rw [sendApp_scheduled]
  cases sendApp app s <;> rfl

theorem ldrOnApp_scheduled (app : Bytes) : ldrOnApp app (scheduled l s) = scheduled l (ldrOnApp app s) := by
  unfold ldrOnApp
  split
  · rfl
  · split
    · rfl
    · exact inbound_scheduled l s _
    · rfl
    · rfl

theorem flwOnApp_scheduled (app : Bytes) : flwOnApp app (scheduled l s) = scheduled l (flwOnApp app s) := by
  unfold flwOnApp
  split
  · rfl
  · split
    · exact inbound_scheduled l s _
    · exact ite_scheduled rfl rfl
    · rfl
    · rfl

theorem ldrBody_scheduled : ldrBody (scheduled l s) = scheduled l (ldrBody s) := by
  simp only [ldrBody, scheduled_ldr]
  split
  · rfl
  · exact seqStart_scheduled l s _
  · exact seqStart_scheduled l s _
  · rfl

theorem initStep_scheduled (p : InitPoint) : initStep p (scheduled l s) = scheduled l (initStep p s) := by
  cases p
  case lineLow | armLow | lineHigh | armPoll | disarm | rearm => rfl
  case checkLow | checkPoll => exact ite_scheduled rfl rfl
  case takeInd =>
    simp only [initStep, receiveFrame_scheduled]
    rcases receiveFrame s with ⟨_ | f, t⟩ <;> rfl

theorem ldrStep_scheduled (p : LdrPoint) : ldrStep p (scheduled l s) = scheduled l (ldrStep p s) := by
  cases p
  case checkBackoff | checkPing => exact ite_scheduled rfl rfl
  case disarmBackoff => exact ldrBody_scheduled l { s with ldr.failTmo := s.ldr.failTmo.disarm }
  case takeOut =>
    simp only [ldrStep, scheduled_q]
    rcases dequeue s.q.usbOut with _ | ⟨buf, rest⟩
    · exact ite_scheduled (ldrSend_scheduled l s _ _) rfl
    · exact ldrSend_scheduled l { s with q.usbOut := rest } _ _
  case armFail | armPing => rfl
  case takeInd =>
    simp only [ldrStep, receiveFrame_scheduled]
    rcases receiveFrame s with ⟨_ | f, t⟩
    · rfl
    · exact ldrOnApp_scheduled l t _
  case putIn d => simp only [ldrStep, enqueueUsbIn_scheduled]; rfl

theorem flwStep_scheduled (p : FlwPoint) : flwStep p (scheduled l s) = scheduled l (flwStep p s) := by
  cases p
  case takeInd =>
    simp only [flwStep, receiveFrame_scheduled]
    rcases receiveFrame s with ⟨_ | f, t⟩
    · rfl
    · exact flwOnApp_scheduled l t _
  case putIn d => simp only [flwStep, enqueueUsbIn_scheduled]; rfl
  case takeOut =>
    simp only [flwStep, scheduled_q]
    rcases dequeue s.q.usbOut with _ | ⟨buf, rest⟩
    · exact flwReply_scheduled l s _
    · exact flwReply_scheduled l { s with q.usbOut := rest } _

theorem seqStep_scheduled (k : Caller) (p : SeqPoint) : seqStep k p (scheduled l s) = onNext (scheduled l) (seqStep k p s) := by
  have returns {u u' : State} (r : PollResult) (hu : u' = scheduled l u) : seqReturn k r u' = scheduled l (seqReturn k r u) :=
    hu ▸ seqReturn_scheduled l u k r
  have finishes {u u' : State} (r : PollResult) (hu : u' = scheduled l u) : seqFinish k r u' = scheduled l (seqFinish k r u) :=
    hu ▸ seqFinish_scheduled l u k r
  cases p
  case clearDone | lineLow | armStatus | enableIrq | armAck => rfl
  case setStatusWait | signalActive | setAckWait | armCnf => exact next_scheduled (returns _ rfl)
  case busyLine | noStatusLine => exact next_scheduled (finishes _ rfl)
  case drain | takeStatus =>
    simp only [seqStep, scheduled_q]
    cases dequeue s.q.status <;> rfl
  case checkStatus | readDone => exact next_scheduled (ite_scheduled rfl (returns _ rfl))
  case release =>
    simp only [seqStep, scheduled_q, scheduled_seq]
    rcases s.seq.frame with _ | f
    · rfl
    · dsimp only
      cases enqueue Config.capTx s.q.tx f <;> rfl
  case takeAck =>
    simp only [seqStep, scheduled_q]
    rcases dequeue s.q.ack with _ | ⟨_ | _, rest⟩
    · rfl
    · rfl
    · exact next_scheduled (finishes _ rfl)
  case takeCnf =>
    simp only [seqStep, scheduled_q]
    rcases dequeue s.q.cnf with _ | ⟨c, rest⟩
    · rfl
    · exact next_scheduled (finishes _ rfl)
  case checkAck | checkCnf => exact next_scheduled (ite_scheduled (finishes _ rfl) (returns _ rfl))

/-- A primitive step neither reads nor writes the preemption schedule (log entry 9). -/
theorem taskStep_scheduled (p : TaskPoint) : taskStep p (scheduled l s) = onNext (scheduled l) (taskStep p s) := by
  cases p with
  | init p => exact congrArg _ (initStep_scheduled l s p)
  | seq k p => exact seqStep_scheduled l s k p
  | ldr p => exact congrArg _ (ldrStep_scheduled l s p)
  | flw p => exact congrArg _ (flwStep_scheduled l s p)

end

theorem taskStep_preempt {p : TaskPoint} {s t : State} (h : taskStep p s = .next t) : t.env.preempt = s.env.preempt := by
  have hs := taskStep_scheduled s.env.preempt s p
  rw [scheduled_self, h] at hs
  exact congrArg (·.env.preempt) (Host.Outcome.next.inj hs)

/-! ## How far a task event is from its end -/

/-- A bound on the primitive steps a task event still takes from a point on, with so many status bytes queued: the drain of q_status
takes one for each (45_sequencer.md R232), and a poll's result may lead to one step of its caller (46_session.md R262, R263). -/
def stepsLeft (queued : Nat) : TaskPoint → Nat
  | .init .checkLow | .init .checkPoll => 3
  | .init .lineLow | .init .lineHigh | .init .takeInd => 2
  | .init .armLow | .init .armPoll | .init .disarm | .init .rearm => 1
  | .seq _ .clearDone => queued + 5
  | .seq _ .drain => queued + 4
  | .seq _ .takeStatus => 4
  | .seq _ .lineLow | .seq _ .release | .seq _ .checkStatus | .seq _ .readDone | .seq _ .takeAck | .seq _ .takeCnf => 3
  | .seq _ .armStatus | .seq _ .busyLine | .seq _ .noStatusLine | .seq _ .enableIrq | .seq _ .armAck | .seq _ .checkAck
  | .seq _ .checkCnf => 2
  | .seq _ .setStatusWait | .seq _ .signalActive | .seq _ .setAckWait | .seq _ .armCnf => 1
  | .ldr .checkBackoff => queued + 7
  | .ldr .disarmBackoff => queued + 6
  | .ldr .checkPing => 3
  | .ldr .takeOut | .ldr .takeInd => 2
  | .ldr .armFail | .ldr .armPing | .ldr (.putIn _) => 1
  | .flw .takeInd => 2
  | .flw (.putIn _) | .flw .takeOut => 1

/-- A point of DRV_INIT, and not of SESSION_POLL. -/
def ofInit : TaskPoint → Bool
  | .init _ => true
  | _ => false

/-- After a primitive step the task event has ended, or stands, live as before, at a point of the same event with fewer than `n`
primitive steps left. -/
inductive Proceeds (init : Bool) (n : Nat) (s t : State) : Prop
  | ends (ended : t.task = none)
  | stands (p : TaskPoint) (task : t.task = some p) (event : ofInit p = init) (live : t.fatal = s.fatal)
      (fewer : stepsLeft t.q.status.length p < n)

theorem Proceeds.mono {init : Bool} {m n : Nat} {s u t : State} (h : Proceeds init m u t) (hmn : m ≤ n) (live : u.fatal = s.fatal) :
    Proceeds init n s t := by
  cases h with
  | ends ended => exact .ends ended
  | stands p task event live' fewer => exact .stands p task event (live'.trans live) (fewer.trans_le hmn)

section
variable (s : State)

theorem seqStart_proceeds (k : Caller) : Proceeds false (s.q.status.length + 6) s (seqStart k s) := by
  unfold seqStart
  split
  · exact .ends rfl
  · refine .stands _ rfl rfl rfl ?_
    cases s.seq.state <;> simp [seqEntry, stepsLeft]

theorem seqReturn_proceeds (k : Caller) (r : PollResult) : Proceeds false 2 s (seqReturn k r s) := by
  unfold seqReturn
  repeat' split
  case h_4 | h_5.isTrue | h_6.isTrue => exact .stands _ rfl rfl rfl Nat.one_lt_two
  all_goals exact .ends rfl

theorem seqReturn_wouldBlock_task (k : Caller) : (seqReturn k .wouldBlock s).task = none := by cases k <;> rfl

theorem inbound_proceeds {put : TaskPoint} (event : ofInit put = false) (hput : ∀ n, stepsLeft n put < 2) :
    Proceeds false 2 s (inbound put s) := by
  obtain ⟨ok, alloc, h⟩ := drawAlloc_answer s
  unfold inbound
  rw [h]
  cases ok
  · exact .ends rfl
  · exact .stands _ rfl event rfl (hput _)

theorem ldrSend_proceeds (app : Bytes) (next : LdrState) : Proceeds false 2 s (ldrSend app next s) := by
  obtain ⟨alloc, ⟨e, h⟩ | ⟨r, h⟩ | ⟨f, tag, -, -, h⟩⟩ := sendApp_cases app s <;> simp only [ldrSend, h]
  · exact .stands _ rfl rfl rfl Nat.one_lt_two
  · exact .ends rfl
  · exact .ends rfl

theorem flwReply_task (app : Bytes) : (flwReply app s).task = none := by
  unfold flwReply
  cases sendApp app s <;> rfl

theorem ldrOnApp_proceeds (app : Bytes) : Proceeds false 2 s (ldrOnApp app s) := by
  unfold ldrOnApp
  split
  · exact .ends rfl
  · split
    · exact .ends rfl
    · exact inbound_proceeds s rfl fun _ => Nat.one_lt_two
    · exact .ends rfl
    · exact .ends rfl

theorem flwOnApp_proceeds (app : Bytes) : Proceeds false 2 s (flwOnApp app s) := by
  unfold flwOnApp
  split
  · exact .ends rfl
  · split
    · exact inbound_proceeds s rfl fun _ => Nat.one_lt_two
    · split
      · exact .stands _ rfl rfl rfl Nat.one_lt_two
      · exact .ends rfl
    · exact .ends rfl
    · exact .ends rfl

theorem ldrBody_proceeds : Proceeds false (s.q.status.length + 6) s (ldrBody s) := by
  unfold ldrBody
  split
  · exact .stands _ rfl rfl rfl (by simp [stepsLeft])
  · exact seqStart_proceeds s _
  · exact seqStart_proceeds s _
  · exact .stands _ rfl rfl rfl (by simp [stepsLeft])

theorem initStep_proceeds (p : InitPoint) : Proceeds true (stepsLeft s.q.status.length (.init p)) s (initStep p s) := by
  cases p <;> unfold initStep
  case armLow | armPoll | disarm | rearm => exact .ends rfl
  case lineLow | lineHigh => exact .stands _ rfl rfl rfl (by simp [stepsLeft])
  case checkLow | checkPoll =>
    dsimp only
    split
    · exact .stands _ rfl rfl rfl (by simp [stepsLeft])
    · exact .ends rfl
  case takeInd =>
    obtain ⟨f, ind, h⟩ := receiveFrame_answer s
    simp only [h]
    cases f with
    | none => exact .stands _ rfl rfl rfl (by simp [stepsLeft])
    | some f =>
      by_cases hind : f.command = s.build.code .reset .ind
      · simp only [if_pos hind]; exact .stands _ rfl rfl rfl (by simp [stepsLeft])
      · simp only [if_neg hind]; exact .stands _ rfl rfl rfl (by simp [stepsLeft])

theorem ldrStep_proceeds (p : LdrPoint) : Proceeds false (stepsLeft s.q.status.length (.ldr p)) s (ldrStep p s) := by
  cases p <;> unfold ldrStep
  case checkBackoff =>
    dsimp only
    split
    · exact .stands _ rfl rfl rfl (by simp [stepsLeft])
    · exact .ends rfl
  case disarmBackoff => exact (ldrBody_proceeds _).mono le_rfl rfl
  case takeOut =>
    dsimp only
    split
    · exact (ldrSend_proceeds _ _ _).mono le_rfl rfl
    · split
      · exact ldrSend_proceeds s _ _
      · exact .ends rfl
  case armFail | armPing | putIn => exact .ends rfl
  case checkPing =>
    dsimp only
    split
    · exact .ends rfl
    · exact .stands _ rfl rfl rfl (by simp [stepsLeft])
  case takeInd =>
    obtain ⟨f, ind, h⟩ := receiveFrame_answer s
    simp only [h]
    cases f with
    | none => exact .ends rfl
    | some f => exact (ldrOnApp_proceeds _ _).mono le_rfl rfl

theorem flwStep_proceeds (p : FlwPoint) : Proceeds false (stepsLeft s.q.status.length (.flw p)) s (flwStep p s) := by
  cases p <;> unfold flwStep
  case takeInd =>
    obtain ⟨f, ind, h⟩ := receiveFrame_answer s
    simp only [h]
    cases f with
    | none => exact .ends rfl
    | some f => exact (flwOnApp_proceeds _ _).mono le_rfl rfl
  case putIn => exact .ends rfl
  case takeOut =>
    dsimp only
    split <;> exact .ends (flwReply_task _ _)

end

theorem seqStep_proceeds {k : Caller} {p : SeqPoint} {s t : State} (h : seqStep k p s = .next t) :
    Proceeds false (stepsLeft s.q.status.length (.seq k p)) s t := by
  have finishes {u : State} (r : PollResult) {n : Nat} (hn : 2 ≤ n) (live : u.fatal = s.fatal) :
      Proceeds false n s (seqFinish k r u) := (seqReturn_proceeds (seqToIdle u) k r).mono hn live
  cases p <;> unfold seqStep at h
  case clearDone | lineLow | armStatus | enableIrq | armAck => cases h; exact .stands _ rfl rfl rfl (by simp [stepsLeft])
  case setStatusWait | signalActive | setAckWait | armCnf => cases h; exact .ends (seqReturn_wouldBlock_task _ k)
  case busyLine | noStatusLine => cases h; exact finishes _ (by simp [stepsLeft]) rfl
  case drain =>
    dsimp only at h
    split at h <;> cases h
    · exact .stands _ rfl rfl rfl (by simp [stepsLeft, dequeue_some ‹_›])
    · exact .stands _ rfl rfl rfl (by simp [stepsLeft])
  case takeStatus =>
    dsimp only at h
    split at h <;> cases h
    · exact .stands _ rfl rfl rfl (by split <;> simp [stepsLeft])
    · exact .stands _ rfl rfl rfl (by simp [stepsLeft])
  case checkStatus | readDone =>
    cases h
    split
    · exact .stands _ rfl rfl rfl (by simp [stepsLeft])
    · exact .ends (seqReturn_wouldBlock_task _ k)
  case release =>
    dsimp only at h
    split at h
    · cases h
    · split at h <;> cases h
      · exact .ends rfl
      · exact .stands _ rfl rfl rfl (by simp [stepsLeft])
  case takeAck =>
    dsimp only at h
    split at h <;> cases h
    · exact finishes _ (by simp [stepsLeft]) rfl
    · exact .stands _ rfl rfl rfl (by simp [stepsLeft])
    · exact .stands _ rfl rfl rfl (by simp [stepsLeft])
  case takeCnf =>
    dsimp only at h
    split at h <;> cases h
    · exact finishes _ (by simp [stepsLeft]) rfl
    · exact .stands _ rfl rfl rfl (by simp [stepsLeft])
  case checkAck | checkCnf =>
    cases h
    split
    · exact finishes _ (by simp [stepsLeft]) rfl
    · exact .ends (seqReturn_wouldBlock_task _ k)

/-- Every primitive step brings its task event closer to the end. -/
theorem taskStep_proceeds {p : TaskPoint} {s t : State} (h : taskStep p s = .next t) :
    Proceeds (ofInit p) (stepsLeft s.q.status.length p) s t := by
  cases p with
  | init p => cases h; exact initStep_proceeds s p
  | seq k p => exact seqStep_proceeds h
  | ldr p => cases h; exact ldrStep_proceeds s p
  | flw p => cases h; exact flwStep_proceeds s p

/-! ## Runs under a budget -/

/-- The bound for the task event in progress, if one is. -/
def remaining (s : State) : Nat := s.task.elim 0 (stepsLeft s.q.status.length)

theorem remaining_of_task {s : State} {p : TaskPoint} (h : s.task = some p) : remaining s = stepsLeft s.q.status.length p := by
  simp [remaining, h]

theorem Proceeds.remaining_lt {init : Bool} {n : Nat} {s t : State} (h : Proceeds init n s t) (hn : 0 < n) : remaining t < n := by
  cases h with
  | ends ended => simpa [remaining, ended] using hn
  | stands p task event live fewer => rwa [remaining_of_task task]

theorem stepsLeft_pos (queued : Nat) (p : TaskPoint) : 0 < stepsLeft queued p := by
  unfold stepsLeft
  split <;> omega

theorem remaining_le_taskFuel (s : State) : remaining s ≤ taskFuel s := by
  unfold taskFuel
  cases h : s.task with
  | none => simp [remaining, h]
  | some p =>
    rw [remaining_of_task h]
    unfold stepsLeft
    split <;> omega

theorem runTask_of_fault {s : State} {p : TaskPoint} {r : Fault} (n : Nat) (h : s.task = some p) (hs : taskStep p s = .fault r) :
    runTask (n + 1) s = .fault r := by
  simp [runTask, h, hs]

/-- Fuel beyond what the task event can use makes no difference. -/
theorem runTask_of_enough {n m : Nat} {s : State} (hn : remaining s ≤ n) (hm : remaining s ≤ m) : runTask n s = runTask m s := by
  induction n generalizing m s with
  | zero =>
    cases htask : s.task with
    | none => rw [runTask_of_none _ htask, runTask_of_none _ htask]
    | some p => exact absurd (remaining_of_task htask ▸ hn) (Nat.not_le.mpr (stepsLeft_pos _ p))
  | succ n ih =>
    cases htask : s.task with
    | none => rw [runTask_of_none _ htask, runTask_of_none _ htask]
    | some p =>
      rw [remaining_of_task htask] at hn hm
      have hpos := stepsLeft_pos s.q.status.length p
      obtain ⟨m, rfl⟩ : ∃ m', m = m' + 1 := ⟨m - 1, by omega⟩
      cases hstep : taskStep p s with
      | next t =>
        have hlt := (taskStep_proceeds hstep).remaining_lt hpos
        rw [runTask_of_step n htask hstep, runTask_of_step m htask hstep]
        exact ih (by omega) (by omega)
      | fault r => rw [runTask_of_fault n htask hstep, runTask_of_fault m htask hstep]
      | refused r => exact absurd hstep (taskStep_not_refused p s r)

theorem runTask_min_taskFuel (n : Nat) (s : State) : runTask (min n (taskFuel s)) s = runTask n s := by
  rcases Nat.le_total n (taskFuel s) with hle | hle
  · rw [Nat.min_eq_left hle]
  · rw [Nat.min_eq_right hle]
    have hfuel := remaining_le_taskFuel s
    exact runTask_of_enough hfuel (hfuel.trans hle)

theorem runPreemptible_of_free {s : State} (h : s.env.preempt = []) : runPreemptible s = runTask (taskFuel s) s := by
  simp [runPreemptible, h]

/-- A run with a budget of `n` primitive steps. -/
theorem runPreemptible_of_budget {s : State} {n : Nat} {rest : List Nat} (h : s.env.preempt = n :: rest) :
    runPreemptible s = runTask n (scheduled rest s) := by
  simp only [runPreemptible, h]
  exact runTask_min_taskFuel n (scheduled rest s)

/-- The event of the task context that a point belongs to (60_exceptions.md R315). -/
def resumes (p : TaskPoint) : Instr := if ofInit p then .drvInit else .sessionPoll

/-- The event a point belongs to goes on with it. -/
theorem exec_resumes {p : TaskPoint} {s : State} (hlive : s.fatal = none) (htask : s.task = some p) :
    exec (resumes p) s = runPreemptible s := by
  cases p with
  | init p => change execDrvInit s = _; simp [execDrvInit, hlive, htask]
  | seq k p => change execSessionPoll s = _; simp [execSessionPoll, hlive, htask]
  | ldr p => change execSessionPoll s = _; simp [execSessionPoll, hlive, htask]
  | flw p => change execSessionPoll s = _; simp [execSessionPoll, hlive, htask]

/-- After a primitive step of a live task event: it has ended, or its event goes on with it. -/
theorem taskStep_then {p : TaskPoint} {s t : State} (hlive : s.fatal = none) (h : taskStep p s = .next t) (l : List Nat) :
    t.task = none ∨ (t.task ≠ none ∧ exec (resumes p) (scheduled l t) = runPreemptible (scheduled l t)) := by
  cases taskStep_proceeds h with
  | ends ended => exact .inl ended
  | stands p' task event live _ =>
    have hsame : resumes p = resumes p' := by simp [resumes, event]
    exact .inr ⟨by simp [task], hsame ▸ exec_resumes (live.trans hlive) task⟩

section
variable {p : TaskPoint} {s : State} (hlive : s.fatal = none) (htask : s.task = some p)
include hlive htask

/-- Without a schedule the event takes its next primitive step and goes on. -/
theorem exec_free (hfree : s.env.preempt = []) : exec (resumes p) s = goesOn (resumes p) (taskStep p s) := by
  rw [exec_resumes hlive htask, runPreemptible_of_free hfree]
  have hfuel := remaining_le_taskFuel s
  obtain ⟨m, hm⟩ : ∃ m, taskFuel s = m + 1 := ⟨_, rfl⟩
  rw [remaining_of_task htask, hm] at hfuel
  rw [hm]
  cases hstep : taskStep p s with
  | next t =>
    have hpre : t.env.preempt = [] := (taskStep_preempt hstep).trans hfree
    have hself : scheduled [] t = t := hpre ▸ scheduled_self t
    rw [runTask_of_step m htask hstep]
    rcases taskStep_then hlive hstep [] with hnone | ⟨hsome, hexec⟩
    · have hkept : { t with env.preempt := t.env.preempt.tail } = t := by rw [hpre]; exact hself
      simp only [goesOn, if_pos hnone, runTask_of_none m hnone, hkept]
    · rw [hself, runPreemptible_of_free hpre] at hexec
      have hlt := (taskStep_proceeds hstep).remaining_lt (stepsLeft_pos _ p)
      simp only [goesOn, if_neg hsome, hexec]
      exact runTask_of_enough (by omega) (remaining_le_taskFuel t)
  | fault r => exact runTask_of_fault m htask hstep
  | refused r => exact absurd hstep (taskStep_not_refused p s r)

/-- With a budget left, the event takes its next primitive step and goes on under what is left of it. -/
theorem exec_budget {n : Nat} {rest : List Nat} (hbudget : s.env.preempt = (n + 1) :: rest) :
    exec (resumes p) s = goesOn (resumes p) (taskStep p (scheduled (n :: rest) s)) := by
  rw [exec_resumes hlive htask, runPreemptible_of_budget hbudget, taskStep_scheduled]
  have hstep' := taskStep_scheduled rest s p
  cases hstep : taskStep p s with
  | next t =>
    rw [hstep] at hstep'
    rw [runTask_of_step (s := scheduled rest s) n htask hstep']
    rcases taskStep_then hlive hstep (n :: rest) with hnone | ⟨hsome, hexec⟩
    · rw [runTask_of_none (s := scheduled rest t) n hnone]
      exact (if_pos hnone).symm
    · rw [runPreemptible_of_budget rfl] at hexec
      exact hexec.symm.trans (if_neg hsome).symm
  | fault r =>
    rw [hstep] at hstep'
    exact runTask_of_fault (s := scheduled rest s) n htask hstep'
  | refused r => exact absurd hstep (taskStep_not_refused p s r)

/-- With its budget used up, the event stays where it stands. -/
theorem exec_used_up {rest : List Nat} (hbudget : s.env.preempt = 0 :: rest) :
    exec (resumes p) s = .next (scheduled rest s) := by
  rw [exec_resumes hlive htask, runPreemptible_of_budget hbudget, runTask_zero]

end

/-- Settles O39: a run of n + 1 primitive steps is one step and a run of n, whatever fuel and schedule the rest is run with. -/
theorem taskEventsRunPrimitiveSteps : Obligations.TaskEventsRunPrimitiveSteps := by
  intro e p s hlive htask he
  obtain rfl : e = resumes p := by
    rcases he with ⟨rfl, q, rfl⟩ | ⟨rfl, hp⟩
    · rfl
    · cases p with
      | init q => exact absurd rfl (hp q)
      | seq | ldr | flw => rfl
  exact ⟨exec_free hlive htask, fun _ _ => exec_budget hlive htask, fun _ => exec_used_up hlive htask⟩

end Sys2Proof.Machine
end

section
/-! PROOFS. Encodings (30_encoding.md), O1 to O4: for each operand layout of log entry 3, that it is read back from its bytes whatever
follows them, and that reading it drops no bit; then both for the decoder and the encoder as a whole, space by space. -/
namespace Sys2Proof.Machine

/-! ## Bytes of a word -/

theorem word16_toNat (lo hi : Byte) : (word16 lo hi).toNat = lo.toNat + 256 * hi.toNat := by
  have hlo := lo.isLt
  have hhi := hi.isLt
  have hor := Nat.shiftLeft_add_eq_or_of_lt hlo hi.toNat
  simp only [word16, BitVec.toNat_or, BitVec.toNat_shiftLeft, BitVec.toNat_setWidth]
  rw [Nat.mod_eq_of_lt (by omega), Nat.mod_eq_of_lt (by omega), Nat.mod_eq_of_lt (by omega), Nat.or_comm, ← hor]
  omega

@[simp] theorem lowByte_word16 (lo hi : Byte) : lowByte (word16 lo hi) = lo := by
  have hlo := lo.isLt
  apply BitVec.eq_of_toNat_eq
  simp only [lowByte, BitVec.toNat_setWidth, word16_toNat]
  omega

@[simp] theorem highByte_word16 (lo hi : Byte) : highByte (word16 lo hi) = hi := by
  have hlo := lo.isLt
  apply BitVec.eq_of_toNat_eq
  simp only [highByte, BitVec.toNat_setWidth, BitVec.toNat_ushiftRight, word16_toNat, Nat.shiftRight_eq_div_pow]
  omega

@[simp] theorem word16_lowByte_highByte (w : Word16) : word16 (lowByte w) (highByte w) = w := by
  have hw := w.isLt
  apply BitVec.eq_of_toNat_eq
  simp only [word16_toNat, lowByte, highByte, BitVec.toNat_setWidth, BitVec.toNat_ushiftRight, Nat.shiftRight_eq_div_pow]
  omega

/-! ## Operands -/

/-- `get` reads the operand `a` off its bytes, whatever follows them. -/
def Reads {α : Type} (get : Bytes → Parse α) (bytes : Bytes) (a : α) : Prop := ∀ r, get (bytes ++ r) = .ok (a, r)

/-- What `get` reads off is the operand's own bytes: no bit of them is dropped. -/
def Lossless {α : Type} (get : Bytes → Parse α) (put : α → Bytes) : Prop :=
  ∀ bs a r, get bs = .ok (a, r) → bs = put a ++ r

theorem Reads.whole {α : Type} {get : Bytes → Parse α} {bytes : Bytes} {a : α} (h : Reads get bytes a) :
    get bytes = .ok (a, []) := by
  simpa using h []

theorem getByte_reads (b : Byte) : Reads getByte [b] b := fun _ => rfl

theorem getByte_lossless : Lossless getByte fun b => [b] := by
  intro bs b r h
  cases bs <;> cases h
  rfl

theorem getWord16_reads (w : Word16) : Reads getWord16 (putWord16 w) w := by
  intro r
  simp [getWord16, putWord16]

theorem getWord16_lossless : Lossless getWord16 putWord16 := by
  intro bs w r h
  unfold getWord16 at h
  split at h <;> cases h
  simp [putWord16]

theorem getWord32_reads (w : Word32) : Reads getWord32 (putWord32 w) w := by
  intro r
  have hw : w.extractLsb' 24 8 ++ w.extractLsb' 16 8 ++ w.extractLsb' 8 8 ++ w.extractLsb' 0 8 = w := by
    apply BitVec.eq_of_getLsbD_eq
    grind
  exact congrArg (fun v => Except.ok (v, r)) hw

theorem getWord32_lossless : Lossless getWord32 putWord32 := by
  intro bs w r h
  unfold getWord32 at h
  split at h <;> cases h
  simp only [putWord32, List.cons_append, List.nil_append, List.cons.injEq, and_true]
  grind

theorem getBuf_reads {p : Bytes} (h : Bytes.fits p = true) : Reads getBuf (putBuf p) p := by
  intro r
  have hlen : p.length ≤ 255 := of_decide_eq_true h
  have hn : p.length % 65536 = p.length := Nat.mod_eq_of_lt (by omega)
  simp [getBuf, putBuf, getWord16_reads _ _, hn]

theorem getBuf_lossless : Lossless getBuf putBuf := by
  intro bs p r h
  unfold getBuf at h
  split at h
  · cases h
  case h_2 n rest hn =>
    split at h <;> cases h
    have hlen : (rest.take n.toNat).length = n.toNat := by simpa
    rw [getWord16_lossless _ _ _ hn, putBuf, hlen]
    simp

theorem getFrame_reads {f : Frame} (h : Bytes.fits f.payload = true) : Reads getFrame (putFrame f) f := by
  intro r
  simp [getFrame, putFrame, getBuf_reads h _, getWord16_reads _ _]

theorem getFrame_lossless : Lossless getFrame putFrame := by
  intro bs f r h
  unfold getFrame at h
  split at h
  · split at h
    · cases h
    split at h
    · cases h
    · rename_i hbuf _ _ _ hsum
      cases h
      simp [putFrame, getBuf_lossless _ _ _ hbuf, getWord16_lossless _ _ _ hsum]
  · cases h

theorem getTag_reads {tag : SenderTag} (h : tag.fits = true) : Reads getTag (putTag tag) tag := by
  intro r
  cases tag with
  | ping p => simp [getTag, putTag, getBuf_reads h _]
  | _ => rfl

theorem getTag_lossless : Lossless getTag putTag := by
  intro bs tag r h
  unfold getTag at h
  split at h
  · cases h
  case h_2 t rest =>
    have number {n : Nat} (ht : t.toNat = n) : t = BitVec.ofNat 8 n := by rw [← ht]; simp
    split at h <;> rename_i ht
    case h_7 =>
      split at h
      · cases h
      case h_2 hbuf =>
        cases h
        rw [number ht, getBuf_lossless _ _ _ hbuf]
        rfl
    case h_8 => cases h
    all_goals cases h; rw [number ht]; rfl

theorem getTimeout_reads (t : TimeoutId) : Reads getTimeout [putTimeout t] t := by
  intro r
  cases t <;> rfl

theorem getTimeout_lossless : Lossless getTimeout fun t => [putTimeout t] := by
  intro bs id r h
  unfold getTimeout at h
  split at h
  · cases h
  case h_2 t rest =>
    have number {n : Nat} (ht : t.toNat = n) : t = BitVec.ofNat 8 n := by rw [← ht]; simp
    split at h <;> cases h <;> rw [number ‹_›] <;> rfl

theorem getStx_reads (t : Stx) : Reads getStx [putStx t] t := by
  intro r
  cases t <;> rfl

theorem getStx_lossless : Lossless getStx fun t => [putStx t] := by
  intro bs stx r h
  unfold getStx at h
  split at h
  · cases h
  · split_ifs at h with hreq hind <;> cases h
    · rw [hreq]; rfl
    · rw [hind]; rfl

theorem getPayload_reads {p : Bytes} (h : Bytes.fits p = true) : Reads getPayload (putBuf p) p := by
  intro r
  have hlen : p.length ≤ Config.maxPayload := of_decide_eq_true h
  simp [getPayload, getBuf_reads h _, hlen]

theorem getPayload_lossless : Lossless getPayload putBuf := by
  intro bs p r h
  unfold getPayload at h
  split at h
  · cases h
  · split at h <;> cases h
    exact getBuf_lossless _ _ _ ‹_›

/-! ## Instructions with operands -/

section
variable {α β : Type} {getA : Bytes → Parse α} {getB : Bytes → Parse β}

theorem Reads.withOperand {bytes : Bytes} {a : α} (h : Reads getA bytes a) (mk : α → Instr) :
    Reads (withOperand getA mk) bytes (mk a) := by
  intro r
  simp [Sys2Proof.withOperand, h r]

theorem Reads.withOperands {bytesA bytesB : Bytes} {a : α} {b : β} (ha : Reads getA bytesA a) (hb : Reads getB bytesB b)
    (mk : α → β → Instr) : Reads (withOperands getA getB mk) (bytesA ++ bytesB) (mk a b) := by
  intro r
  rw [List.append_assoc]
  simp [Sys2Proof.withOperands, ha (bytesB ++ r), hb.withOperand (mk a) r]

theorem Lossless.withOperand {put : α → Bytes} (hget : Lossless getA put) {mk : α → Instr} {i : Instr} {bs r : Bytes}
    (h : withOperand getA mk bs = .ok (i, r)) : ∃ a, i = mk a ∧ bs = put a ++ r := by
  unfold Sys2Proof.withOperand at h
  split at h <;> cases h
  exact ⟨_, rfl, hget _ _ _ ‹_›⟩

theorem Lossless.withOperands {putA : α → Bytes} {putB : β → Bytes} (ha : Lossless getA putA) (hb : Lossless getB putB)
    {mk : α → β → Instr} {i : Instr} {bs r : Bytes} (h : withOperands getA getB mk bs = .ok (i, r)) :
    ∃ a b, i = mk a b ∧ bs = putA a ++ putB b ++ r := by
  unfold Sys2Proof.withOperands at h
  split at h
  · cases h
  case h_2 hfirst =>
    obtain ⟨b, rfl, hrest⟩ := hb.withOperand h
    exact ⟨_, b, rfl, by rw [ha _ _ _ hfirst, hrest, List.append_assoc]⟩

end

/-! ## Command codes -/

theorem code_inj {b : Build} (hb : b.wf = true) {v w : Family × Variant} (hv : v ∈ tableCodes) (hw : w ∈ tableCodes)
    (h : b.code v.1 v.2 = b.code w.1 w.2) : v = w := by
  have hnodup : b.codes.Nodup := of_decide_eq_true (Bool.and_eq_true_iff.mp hb).2
  exact List.inj_on_of_nodup_map hnodup hv hw h

/-- Every unused code is BASE + 2 of a family whose BASE stands in the table. -/
theorem unusedCodes_family {v : Family × Variant} (h : v ∈ unusedCodes) : v.2 = .ind ∧ (v.1, Variant.req) ∈ tableCodes := by
  revert v
  decide

theorem unusedCode_inj {b : Build} (hb : b.wf = true) {v w : Family × Variant} (hv : v ∈ unusedCodes) (hw : w ∈ unusedCodes)
    (h : b.code v.1 v.2 = b.code w.1 w.2) : v = w := by
  obtain ⟨hvi, hvt⟩ := unusedCodes_family hv
  obtain ⟨hwi, hwt⟩ := unusedCodes_family hw
  have hbase : b.base v.1 = b.base w.1 := by simpa [Build.code, hvi, hwi] using h
  have hreq : (v.1, Variant.req) = (w.1, Variant.req) := code_inj hb hvt hwt (by simp [Build.code, hbase])
  exact Prod.ext (Prod.mk.inj hreq).1 (hvi.trans hwi.symm)

/-- In a list of families and variants whose codes are distinct, the search for a code finds its own. -/
theorem find?_code {b : Build} {l : List (Family × Variant)} {v : Family × Variant} (hv : v ∈ l)
    (inj : ∀ w ∈ l, b.code w.1 w.2 = b.code v.1 v.2 → w = v) : l.find? (fun w => b.code w.1 w.2 == b.code v.1 v.2) = some v := by
  obtain ⟨w, hw⟩ := Option.isSome_iff_exists.mp (List.find?_isSome (p := fun w => b.code w.1 w.2 == b.code v.1 v.2).mpr
    ⟨v, hv, beq_self_eq_true _⟩)
  rw [hw, inj w (List.mem_of_find?_eq_some hw) (by simpa using List.find?_some hw)]

/-- A code of the table stands for its family and variant (30_encoding.md R96, R97). -/
theorem findCode_table {b : Build} (hb : b.wf = true) {v : Family × Variant} (hv : v ∈ tableCodes) :
    b.findCode (b.code v.1 v.2) = some v := by
  unfold Build.findCode
  rw [List.find?_append, find?_code hv fun w hw h => code_inj hb hw hv h]
  rfl

/-- So does an unused BASE + 2 code that is no code of the table (30_encoding.md R105). -/
theorem findCode_unused {b : Build} (hb : b.wf = true) {v : Family × Variant} (hv : v ∈ unusedCodes)
    (hfree : b.codes.contains (b.code v.1 v.2) = false) : b.findCode (b.code v.1 v.2) = some v := by
  have hnone : tableCodes.find? (fun w => b.code w.1 w.2 == b.code v.1 v.2) = none := by
    simpa [Build.codes, List.find?_eq_none] using hfree
  unfold Build.findCode
  rw [List.find?_append, hnone, find?_code hv fun w hw h => unusedCode_inj hb hw hv h]
  rfl

theorem instrOfCode_of_some {b : Build} {c : Byte} {v : Family × Variant} (h : b.findCode c = some v) :
    instrOfCode b c = commandInstr v := by
  simp [instrOfCode, h]

theorem instrOfCode_of_none {b : Build} {c : Byte} (h : b.findCode c = none) : instrOfCode b c = .commandReserved c := by
  simp [instrOfCode, h]

theorem encode_commandInstr (b : Build) (v : Family × Variant) (t : Stx) (p : Bytes) :
    encode b (commandInstr v t p) = commandSlot (b.code v.1 v.2) t p := by
  obtain ⟨f, v⟩ := v
  cases f <;> cases v <;> rfl

/-- Whatever a COMMAND byte stands for is encoded with that byte. -/
theorem encode_instrOfCode (b : Build) (c : Byte) (t : Stx) (p : Bytes) : encode b (instrOfCode b c t p) = commandSlot c t p := by
  cases h : b.findCode c with
  | none => rw [instrOfCode_of_none h]; rfl
  | some v =>
    have hcode : b.code v.1 v.2 = c := by simpa using List.find?_some h
    rw [instrOfCode_of_some h, encode_commandInstr, hcode]

theorem decode_commandSlot (b : Build) (c : Byte) (t : Stx) {p : Bytes} (hp : Bytes.fits p = true) :
    decode b (commandSlot c t p) = .ok (instrOfCode b c t p, []) :=
  ((getStx_reads t).withOperands (getPayload_reads hp) (instrOfCode b c)).whole

theorem decode_tableCode {b : Build} (hb : b.wf = true) {f : Family} {v : Variant} (hv : (f, v) ∈ tableCodes) (t : Stx) {p : Bytes}
    (hp : Bytes.fits p = true) : decode b (commandSlot (b.code f v) t p) = .ok (commandInstr (f, v) t p, []) := by
  rw [decode_commandSlot b _ t hp, instrOfCode_of_some (findCode_table hb hv)]

theorem decode_unusedCode {b : Build} (hb : b.wf = true) {f : Family} {v : Variant} (hv : (f, v) ∈ unusedCodes) (t : Stx)
    {p : Bytes} (hi : (Bytes.fits p && !(b.codes.contains (b.code f v))) = true) :
    decode b (commandSlot (b.code f v) t p) = .ok (commandInstr (f, v) t p, []) := by
  obtain ⟨hp, hfree⟩ := Bool.and_eq_true_iff.mp hi
  rw [decode_commandSlot b _ t hp, instrOfCode_of_some (findCode_unused hb hv (Bool.not_eq_true' _ ▸ hfree))]

theorem decode_commandReserved {b : Build} {c : Byte} (t : Stx) {p : Bytes} (hp : Bytes.fits p = true)
    (hc : b.findCode c = none) : decode b (commandSlot c t p) = .ok (.commandReserved c t p, []) := by
  rw [decode_commandSlot b c t hp, instrOfCode_of_none hc]

/-! ## Decoding an encoding -/

theorem decode_frame {b : Build} {p : Bytes} (hp : Bytes.fits p = true) (stx : Stx) (c lsb msb : Byte) :
    decode b (encode b (.frame stx c p lsb msb)) = .ok (.frame stx c p lsb msb, []) := by
  have hlen : p.length ≤ 255 := of_decide_eq_true hp
  have hn : p.length % 256 = p.length := Nat.mod_eq_of_lt (by omega)
  have hstx : stxOf stx.byte = some stx := by cases stx <;> rfl
  simp [decode, encode, decodeWireFrame, hstx, hn]

theorem decode_desync {b : Build} {x : Byte} (h : classifyFirst x = .desync) :
    decode b (encode b (.desync x)) = .ok (.desync x, []) := by
  simp [decode, encode, firstByteSlot, decodeFirstByte, h]

theorem decode_hdrReserved {b : Build} {h : Byte} (hh : headerOf h = none) (d : Bytes) :
    decode b (encode b (.hdrReserved (some h) d)) = .ok (.hdrReserved (some h) d, []) := by
  simp [decode, encode, headerSlot, decodeHeader, hh]

/-- Settles O3, by the instruction's operands: each is read back from its bytes, and a command code stands for its own row. -/
theorem decodeAfterEncode : Obligations.DecodeAfterEncode := by
  intro b i hb hi
  cases i
  case txReady | uartShift | sessionPoll | drvInit | hostInPop | reset | drvSetReady | seqPoll | drvResetReq |
      drvReceiveFrame | stxRequest | stxIndication | ack | nak | stxStatus | statusSequence | hdrIdle | hdrData | hdrPing => rfl
  case rxByte | drvMibErase => exact ((getByte_reads _).withOperand _).whole
  case clockAdvance => exact ((getWord32_reads _).withOperand _).whole
  case hostOutPush =>
    obtain ⟨-, hbuf⟩ := Bool.and_eq_true_iff.mp hi
    exact ((getBuf_reads hbuf).withOperand _).whole
  case drvPing | drvPhyData | drvDlData | drvData => exact ((getBuf_reads hi).withOperand _).whole
  case checksum c l p => exact ((getBuf_reads hi).withOperand (Instr.checksum c l)).whole
  case drvMibWrite => exact ((getByte_reads _).withOperands (getBuf_reads hi) _).whole
  case frameNew st l c p =>
    obtain ⟨⟨hp, -⟩, -⟩ : (Bytes.fits p = true ∧ _) ∧ _ := by simpa only [Instr.wf, Bool.and_eq_true] using hi
    exact ((getBuf_reads hp).withOperand (Instr.frameNew st l c)).whole
  case seqEnqueue f tag =>
    obtain ⟨⟨hf, htag⟩, -⟩ : (Bytes.fits f.payload = true ∧ tag.fits = true) ∧ _ := by
      simpa only [Instr.wf, Bool.and_eq_true] using hi
    exact ((getFrame_reads hf).withOperands (getTag_reads htag) _).whole
  case frameChecksum | frameSerialise => exact ((getFrame_reads hi).withOperand _).whole
  case timeoutSet => exact ((getTimeout_reads _).withOperands (getWord16_reads _) _).whole
  case timeoutExpired | timeoutDisarm => exact ((getTimeout_reads _).withOperand _).whole
  case frame => exact decode_frame hi _ _ _ _
  case desync => exact decode_desync (of_decide_eq_true hi)
  case hdrReserved header d =>
    cases header with
    | none => rw [show d = [] from of_decide_eq_true hi]; rfl
    | some h =>
      obtain ⟨hh, -⟩ := Bool.and_eq_true_iff.mp hi
      exact decode_hdrReserved (Option.isNone_iff_eq_none.mp hh) d
  case resetReq | resetCnf | resetInd | resetErr | mibWriteReq | mibWriteCnf | mibWriteErr | mibEraseReq | mibEraseCnf |
      mibEraseErr | pingReq | pingCnf | pingErr | phyReq | phyCnf | phyInd | phyErr | dlReq | dlCnf | dlInd | dlErr =>
    exact decode_tableCode hb (by decide) _ hi
  case mibWriteUnused2 | mibEraseUnused2 | pingUnused2 => exact decode_unusedCode hb (by decide) _ hi
  case commandReserved =>
    obtain ⟨hp, hc⟩ := Bool.and_eq_true_iff.mp hi
    exact decode_commandReserved _ hp (Option.isNone_iff_eq_none.mp hc)

/-! ## Encoding what was decoded -/

/-- The slot of `space` with these bytes is the encoding of `i` followed by `rest`. -/
def EncodedAs (b : Build) (space : Space) (bytes : Bytes) (i : Instr) (rest : Bytes) : Prop :=
  (encode b i).space = space ∧ bytes = (encode b i).bytes ++ rest

theorem encodedAs_event {b : Build} {id : Byte} {n : Nat} {operands bytes rest : Bytes} {i : Instr} (hid : id.toNat = n)
    (he : encode b i = eventSlot (BitVec.ofNat 8 n) operands) (hbytes : bytes = operands ++ rest) :
    EncodedAs b .event (id :: bytes) i rest := by
  have hn : BitVec.ofNat 8 n = id := by rw [← hid, BitVec.ofNat_toNat, BitVec.setWidth_eq]
  rw [hn] at he
  exact ⟨by rw [he]; rfl, by rw [he, hbytes]; rfl⟩

section
variable {b : Build} {α β : Type} {getA : Bytes → Parse α} {getB : Bytes → Parse β} {putA : α → Bytes} {putB : β → Bytes}
  {id : Byte} {n : Nat} {bytes rest : Bytes} {i : Instr}

theorem Lossless.event (hget : Lossless getA putA) {mk : α → Instr} (hid : id.toNat = n)
    (he : ∀ a, encode b (mk a) = eventSlot (BitVec.ofNat 8 n) (putA a)) (h : Sys2Proof.withOperand getA mk bytes = .ok (i, rest)) :
    EncodedAs b .event (id :: bytes) i rest := by
  obtain ⟨a, rfl, hbytes⟩ := hget.withOperand h
  exact encodedAs_event hid (he a) hbytes

theorem Lossless.event₂ (ha : Lossless getA putA) (hb : Lossless getB putB) {mk : α → β → Instr} (hid : id.toNat = n)
    (he : ∀ x y, encode b (mk x y) = eventSlot (BitVec.ofNat 8 n) (putA x ++ putB y))
    (h : Sys2Proof.withOperands getA getB mk bytes = .ok (i, rest)) : EncodedAs b .event (id :: bytes) i rest := by
  obtain ⟨x, y, rfl, hbytes⟩ := ha.withOperands hb h
  exact encodedAs_event hid (he x y) hbytes

end

theorem decodeEvent_lossless {b : Build} {bytes rest : Bytes} {i : Instr} (h : decodeEvent bytes = .ok (i, rest)) :
    EncodedAs b .event bytes i rest := by
  unfold decodeEvent at h
  split at h
  · cases h
  split at h <;> rename_i hid
  case h_2 | h_3 | h_5 | h_6 | h_8 | h_9 | h_10 | h_12 | h_13 | h_20 => cases h; exact encodedAs_event hid rfl rfl
  case h_1 | h_15 => exact getByte_lossless.event hid (fun _ => rfl) h
  case h_4 => exact getWord32_lossless.event hid (fun _ => rfl) h
  case h_7 | h_16 | h_17 | h_18 | h_19 => exact getBuf_lossless.event hid (fun _ => rfl) h
  case h_11 => exact getFrame_lossless.event₂ getTag_lossless hid (fun _ _ => rfl) h
  case h_14 => exact getByte_lossless.event₂ getBuf_lossless hid (fun _ _ => rfl) h
  case h_21 | h_22 =>
    split at h
    · obtain ⟨p, rfl, rfl⟩ := getBuf_lossless.withOperand h
      exact encodedAs_event hid rfl rfl
    · cases h
  case h_23 | h_24 => exact getFrame_lossless.event hid (fun _ => rfl) h
  case h_25 => exact getTimeout_lossless.event₂ getWord16_lossless hid (fun _ _ => rfl) h
  case h_26 | h_27 => exact getTimeout_lossless.event hid (fun _ => rfl) h
  case h_28 => cases h

theorem byte_of_stxOf {st : Byte} {stx : Stx} (h : stxOf st = some stx) : stx.byte = st := by
  unfold stxOf at h
  split_ifs at h with hreq hind <;> cases h
  · exact hreq.symm
  · exact hind.symm

theorem decodeWireFrame_lossless {b : Build} {bytes rest : Bytes} {i : Instr} (h : decodeWireFrame bytes = .ok (i, rest)) :
    EncodedAs b .wireFrame bytes i rest := by
  unfold decodeWireFrame at h
  split at h
  case h_2 => cases h
  case h_1 st len cmd r =>
    split at h
    · cases h
    · rename_i hst
      split_ifs at h with hlen
      split at h <;> cases h
      rename_i hdrop
      have hp : (r.take len.toNat).length = len.toNat := by simpa
      refine ⟨rfl, ?_⟩
      simp only [encode, hp, byte_of_stxOf hst]
      simp [← hdrop]

theorem decodeFirstByte_lossless {b : Build} {bytes rest : Bytes} {i : Instr} (h : decodeFirstByte bytes = .ok (i, rest)) :
    EncodedAs b .firstByte bytes i rest := by
  unfold decodeFirstByte classifyFirst at h
  cases bytes with
  | nil => cases h
  | cons x r =>
    dsimp only at h
    split_ifs at h with hack hnak hstatus hreq hind <;> cases h <;> refine ⟨rfl, ?_⟩
    · rw [hack]; rfl
    · rw [hnak]; rfl
    · rw [hstatus]; rfl
    · rw [hreq]; rfl
    · rw [hind]; rfl
    · rfl

theorem decodeWireStatus_lossless {b : Build} {bytes rest : Bytes} {i : Instr} (h : decodeWireStatus bytes = .ok (i, rest)) :
    EncodedAs b .wireStatus bytes i rest := by
  unfold decodeWireStatus at h
  split at h
  · split_ifs at h with hmark
    obtain ⟨v, rfl, rfl⟩ := getByte_lossless.withOperand h
    exact ⟨rfl, by rw [hmark]; rfl⟩
  · cases h

theorem decodeHeader_lossless {b : Build} {bytes rest : Bytes} {i : Instr} (h : decodeHeader bytes = .ok (i, rest)) :
    EncodedAs b .header bytes i rest := by
  unfold decodeHeader headerOf at h
  cases bytes with
  | nil => cases h; exact ⟨rfl, rfl⟩
  | cons x d =>
    dsimp only at h
    split_ifs at h with hidle hdata hping <;> cases h <;> refine ⟨rfl, ?_⟩
    · rw [hidle]; exact (List.append_nil _).symm
    · rw [hdata]; exact (List.append_nil _).symm
    · rw [hping]; exact (List.append_nil _).symm
    · exact (List.append_nil _).symm

theorem decodeCommand_lossless {b : Build} {bytes rest : Bytes} {i : Instr} (h : decodeCommand b bytes = .ok (i, rest)) :
    EncodedAs b .command bytes i rest := by
  unfold decodeCommand at h
  split at h
  · cases h
  · obtain ⟨t, p, rfl, rfl⟩ := getStx_lossless.withOperands getPayload_lossless h
    rw [EncodedAs, encode_instrOfCode]
    exact ⟨rfl, rfl⟩

/-- Settles O4, space by space. -/
theorem encodeAfterDecode : Obligations.EncodeAfterDecode := by
  intro b ⟨space, bytes⟩ i rest h
  cases space with
  | event => exact decodeEvent_lossless h
  | wireFrame => exact decodeWireFrame_lossless h
  | firstByte => exact decodeFirstByte_lossless h
  | wireStatus => exact decodeWireStatus_lossless h
  | header => exact decodeHeader_lossless h
  | command => exact decodeCommand_lossless h

/-- Settles O1: each word runs through the decoder as it stands. -/
theorem sampleWordsDecode : Obligations.SampleWordsDecode :=
  ⟨rfl, rfl, rfl, rfl, rfl, rfl, rfl, rfl, rfl, rfl, rfl, rfl⟩

/-! ## The step on a decoded slot -/

theorem fetch_nil {s : State} (h : s.env.trace = []) : fetch s = .idle := by
  simp [fetch, h]

theorem fetch_decoded {s : State} {slot : Slot} {rest : List Slot} {i : Instr} {r : Bytes} (h : s.env.trace = slot :: rest)
    (hslot : decode s.build slot = .ok (i, r)) : fetch s = .instr i { s with env.trace := rest } := by
  simp [fetch, h, hslot]

theorem fetch_undecodable {s : State} {slot : Slot} {rest : List Slot} {e : Reject} (h : s.env.trace = slot :: rest)
    (hslot : decode s.build slot = .error e) : fetch s = .bad e := by
  simp [fetch, h, hslot]

/-- Settles O2, by what the trace holds and what its first slot decodes to. -/
theorem stepRunsDecodedInstruction : Obligations.StepRunsDecodedInstruction := by
  intro s
  unfold step
  refine ⟨fun slot rest i r htrace hslot => ?_, fun htrace => ?_, fun slot rest e htrace hslot => ?_⟩
  · rw [fetch_decoded htrace hslot]
  · rw [fetch_nil htrace]
  · rw [fetch_undecodable htrace hslot]

end Sys2Proof.Machine
end

section
/-! PROOFS. The wire rows (30_encoding.md R90 to R97), O21, O22 and O24: a row is its bytes as RX_BYTE events back to back, and the bytes
of a whole frame at FirstByte, followed register by register to its routing (42_rx_framer.md R153-R163). -/
namespace Sys2Proof.Machine

/-! ## Deliveries and runs of RX_BYTE -/

theorem deliver_of_fatal {s : State} (h : s.fatal ≠ none) (bs : Bytes) : deliver bs s = s := by
  obtain ⟨r, hr⟩ := Option.ne_none_iff_exists'.mp h
  cases bs <;> simp [deliver, hr]

theorem deliver_cons {s : State} (h : s.fatal = none) (b : Byte) (bs : Bytes) : deliver (b :: bs) s = deliver bs (rxByte b s) := by
  simp [deliver, h]

theorem deliver_append (pre suf : Bytes) (s : State) : deliver (pre ++ suf) s = deliver suf (deliver pre s) := by
  induction pre generalizing s with
  | nil => rfl
  | cons b pre ih =>
    by_cases h : s.fatal = none
    · rw [List.cons_append, deliver_cons h, deliver_cons h, ih]
    · simp only [deliver_of_fatal h]

/-- RX_BYTE events back to back, none of them refused, are the delivery of their bytes. -/
theorem deliver_of_runAll {bs : Bytes} {s t : State} (h : runAll (bs.map Instr.rxByte) s = .next t) : deliver bs s = t := by
  induction bs generalizing s with
  | nil => cases h; rfl
  | cons b bs ih =>
    by_cases hlive : s.fatal = none
    · have hexec : exec (.rxByte b) s = .next (rxByte b s) := ifLive_of_live hlive _
      rw [deliver_cons hlive]
      exact ih (by simpa [runAll, hexec] using h)
    · obtain ⟨r, hr⟩ := Option.ne_none_iff_exists'.mp hlive
      have hexec : exec (.rxByte b) s = .refused .notEnabled := ifLive_of_fatal hr _
      simp [runAll, hexec] at h

/-! ## Rows -/

theorem arrive_of_live {s : State} (h : s.fatal = none) (bs : Bytes) : arrive bs s = .next (deliver bs s) := ifLive_of_live h _

theorem execFrame_of_fits {stx : Stx} {c : Byte} {p : Bytes} {lsb msb : Byte} {s : State} (hp : Bytes.fits p = true) :
    execFrame stx c p lsb msb s = arrive (stx.byte :: BitVec.ofNat 8 p.length :: c :: (p ++ [lsb, msb])) s :=
  if_pos (of_decide_eq_true hp)

theorem arriveFrame_of_fits {c : Byte} {stx : Stx} {p : Bytes} {s : State} (hp : Bytes.fits p = true) :
    arriveFrame c stx p s = arrive (serialise (commandFrame c stx p)) s :=
  if_pos (of_decide_eq_true hp)

/-- A row that stands for wire bytes delivers them. -/
theorem exec_wireRow {i : Instr} {bs : Bytes} {s : State} (hwf : i.wf s.build = true) (hlive : s.fatal = none)
    (hrow : wireBytes s.build i = some bs) : exec i s = .next (deliver bs s) := by
  rw [← arrive_of_live hlive]
  cases i
  case rxByte b =>
    cases hrow
    exact (ifLive_of_live hlive _).trans (by rw [arrive_of_live hlive, deliver_singleton b hlive])
  case frame => cases hrow; exact execFrame_of_fits hwf
  case stxRequest | stxIndication | ack | nak | stxStatus | statusSequence | desync => cases hrow; rfl
  case resetReq | resetCnf | resetInd | resetErr | mibWriteReq | mibWriteCnf | mibWriteErr | mibEraseReq | mibEraseCnf |
      mibEraseErr | pingReq | pingCnf | pingErr | phyReq | phyCnf | phyInd | phyErr | dlReq | dlCnf | dlInd | dlErr =>
    cases hrow
    exact arriveFrame_of_fits hwf
  case mibWriteUnused2 | mibEraseUnused2 | pingUnused2 | commandReserved =>
    cases hrow
    exact arriveFrame_of_fits (Bool.and_eq_true_iff.mp hwf).1
  all_goals cases hrow

/-- Settles O21: the bytes after the first fatal one change nothing. -/
theorem wireRowsAreRxBytes : Obligations.WireRowsAreRxBytes := by
  intro i pre suf s t hwf hlive hrow hrun hend
  rw [exec_wireRow hwf hlive hrow, deliver_append, deliver_of_runAll hrun]
  rcases hend with rfl | hfatal
  · rfl
  · rw [deliver_of_fatal hfatal]

/-! ## The allocation draw, by what is to come (20_memory.md R77) -/

theorem drawAlloc_ok {s : State} (h : AllocOk s) : drawAlloc s = (true, afterDraw s) := by
  have htrue : s.env.alloc.head?.getD true = true := by
    cases ha : s.env.alloc.head? with
    | none => rfl
    | some ok => cases ok <;> simp_all [AllocOk]
  rw [drawAlloc_eq_afterDraw, htrue]

theorem drawAlloc_exhausted {s : State} (h : ¬ AllocOk s) : drawAlloc s = (false, afterDraw s) := by
  rw [drawAlloc_eq_afterDraw, not_not.mp h]
  rfl

/-! ## The registers along a frame -/

theorem ticks_tInterchar_ne_zero (rate : TickRate) : ticks rate Config.tInterchar ≠ 0 := by cases rate <;> decide

/-- `s` once the framer drew its buffer, with the registers `r` inside a frame that began at `s`: the timer was armed at this clock, and
arming it anew at the same clock is no change (42_rx_framer.md R153, R164). -/
def midFrame (r : RxRegs) (s : State) : State := { afterDraw s with rx := { r with tmo := armed s Config.tInterchar } }

section
variable {r : RxRegs} {s : State}

@[simp] theorem midFrame_rx_state : (midFrame r s).rx.state = r.state := rfl

/-- With no clock tick between the bytes, no timeout expires (42_rx_framer.md R150). -/
theorem rxByte_midFrame (b : Byte) : rxByte b (midFrame r s) = rxDispatch b (midFrame r s) := by
  have h : expired (midFrame r s) (midFrame r s).rx.tmo = false :=
    not_expired_of_armed_now s (midFrame r s) _ rfl (ticks_tInterchar_ne_zero _)
  simp [rxByte, rxExpire, h]

/-- A byte inside the frame, up to the last but one, moves the registers on and arms the timer anew (R156-R159). -/
theorem rxByte_inside {b : Byte} (r' : RxRegs) (h : rxDispatch b (midFrame r s) = rxRearm (midFrame r' s)) :
    rxByte b (midFrame r s) = midFrame r' s := by
  rw [rxByte_midFrame, h, rxRearm]
  split <;> rfl

/-- A start byte at FirstByte, up to the allocation draw (42_rx_framer.md R150, R153). -/
theorem rxByte_stx (stx : Stx) (hquiet : Quiet s) (hst : s.rx.state = .firstByte) :
    rxByte stx.byte s = rxFrameStart stx.byte s := by
  have hclass : classifyFirst stx.byte = .start stx := by cases stx <;> rfl
  simp [rxByte, rxExpire, hquiet.2, rxDispatch, hst, rxFirstByte, hclass]

theorem rxFrameStart_ok (b : Byte) (h : AllocOk s) : rxFrameStart b s =
    midFrame { state := .length, start := b, len := 0, cmd := 0, data := [], csumLo := 0, tmo := .disarmed } s := by
  rw [rxFrameStart, drawAlloc_ok h]
  rfl

theorem rxFrameStart_exhausted (b : Byte) (h : ¬ AllocOk s) :
    rxFrameStart b s = { afterDraw s with fatal := some .allocFail } := by
  rw [rxFrameStart, drawAlloc_exhausted h]
  rfl

theorem rxByte_length (hst : r.state = .length) (b : Byte) :
    rxByte b (midFrame r s) = midFrame { r with len := b, state := .command } s :=
  rxByte_inside _ (by rw [rxDispatch, midFrame_rx_state, hst]; rfl)

/-- The state for the next byte of a payload of which `data` is there (42_rx_framer.md R157, R158). -/
def dataState (data : Bytes) (len : Byte) : RxState := if data.length = len.toNat then .checksumLsb else .data

theorem dataState_nil (len : Byte) : dataState [] len = if len = 0 then .checksumLsb else .data := by
  have hzero : ([] : Bytes).length = len.toNat ↔ len = 0 := by simp only [List.length_nil]; bv_omega
  simp only [dataState, hzero]

theorem rxByte_command (hst : r.state = .command) (hdata : r.data = []) (b : Byte) :
    rxByte b (midFrame r s) = midFrame { r with cmd := b, state := dataState r.data r.len } s :=
  have hstate : dataState r.data r.len = if r.len = 0 then .checksumLsb else .data := hdata ▸ dataState_nil r.len
  rxByte_inside _ (by rw [rxDispatch, midFrame_rx_state, hst, hstate]; rfl)

theorem rxByte_data (hst : r.state = .data) (b : Byte) : rxByte b (midFrame r s) =
    midFrame { r with data := r.data ++ [b], state := dataState (r.data ++ [b]) r.len } s :=
  rxByte_inside _ (by rw [rxDispatch, midFrame_rx_state, hst]; rfl)

theorem rxByte_checksumLsb (hst : r.state = .checksumLsb) (b : Byte) :
    rxByte b (midFrame r s) = midFrame { r with csumLo := b, state := .checksumMsb } s :=
  rxByte_inside _ (by rw [rxDispatch, midFrame_rx_state, hst]; rfl)

theorem deliver_midFrame (hlive : s.fatal = none) (b : Byte) (bs : Bytes) :
    deliver (b :: bs) (midFrame r s) = deliver bs (rxByte b (midFrame r s)) :=
  deliver_cons (s := midFrame r s) hlive b bs

/-- The payload's bytes are collected in order (42_rx_framer.md R158). -/
theorem deliver_payload (hlive : s.fatal = none) (p : Bytes) (hst : r.state = dataState r.data r.len)
    (hlen : r.data.length + p.length = r.len.toNat) :
    deliver p (midFrame r s) = midFrame { r with data := r.data ++ p, state := .checksumLsb } s := by
  induction p generalizing r with
  | nil =>
    have hst' : r.state = .checksumLsb := by rw [hst]; exact if_pos hlen
    simp [deliver, ← hst']
  | cons b p ih =>
    rw [List.length_cons] at hlen
    have hst' : r.state = .data := by rw [hst]; exact if_neg (by omega)
    rw [deliver_midFrame hlive, rxByte_data hst', ih rfl (by simp; omega)]
    simp

end

/-- A whole frame at FirstByte, up to its last byte (42_rx_framer.md R153-R159). -/
theorem deliver_frame {s : State} {p : Bytes} (stx : Stx) (c lsb msb : Byte) (hp : p.length ≤ 255) (hquiet : Quiet s)
    (hst : s.rx.state = .firstByte) (hok : AllocOk s) :
    deliver (stx.byte :: BitVec.ofNat 8 p.length :: c :: (p ++ [lsb, msb])) s =
      rxChecksumMsb msb (midFrame { state := .checksumMsb, start := stx.byte, len := BitVec.ofNat 8 p.length, cmd := c,
                                    data := p, csumLo := lsb, tmo := .disarmed } s) := by
  have hlive := hquiet.1
  have hlen : p.length = (BitVec.ofNat 8 p.length).toNat := by
    rw [BitVec.toNat_ofNat, Nat.mod_eq_of_lt (by omega)]
  rw [deliver_cons hlive, rxByte_stx stx hquiet hst, rxFrameStart_ok _ hok, deliver_midFrame hlive, rxByte_length rfl,
    deliver_midFrame hlive, rxByte_command rfl rfl, deliver_append, deliver_payload hlive p rfl (by simpa using hlen),
    deliver_midFrame hlive, rxByte_checksumLsb rfl, deliver_midFrame hlive, rxByte_midFrame]
  rfl

/-! ## Routing -/

section
variable {f : Frame} {s : State}

theorem armReply_eq_replied (r : Reply) (s : State) : armReply r s = replied r s := rfl

/-- ARM_REPLY(ACK) after ROUTE, unless ROUTE was fatal (42_rx_framer.md R160). -/
def acknowledge (s : State) : State := if s.fatal = none then armReply .ack s else s

theorem acknowledge_enqueueInd (hlive : s.fatal = none) : acknowledge (enqueueInd f s) =
    if s.q.ind.length < Config.capInd then replied .ack { s with q.ind := s.q.ind ++ [f] }
    else { s with fatal := some .indQueueFull } := by
  rcases enqueueInd_cases f s with ⟨hroom, h⟩ | ⟨hfull, h⟩ <;> rw [h]
  · rw [if_pos hroom]; exact if_pos hlive
  · rw [if_neg (by omega)]; rfl

theorem acknowledge_enqueueCnf (hlive : s.fatal = none) : acknowledge (enqueueCnf f s) =
    if s.q.cnf.length < Config.capCnf then replied .ack { s with q.cnf := s.q.cnf ++ [f] }
    else { s with fatal := some .cnfQueueFull } := by
  rcases enqueueCnf_cases f s with ⟨hroom, h⟩ | ⟨hfull, h⟩ <;> rw [h]
  · rw [if_pos hroom]; exact if_pos hlive
  · rw [if_neg (by omega)]; rfl

/-- ROUTE and ARM_REPLY by the frame's code, the ready gate and the policy (42_rx_framer.md R161, R162). -/
theorem acknowledge_route (hlive : s.fatal = none) : acknowledge (route f s) = received f s := by
  unfold route received
  by_cases hind : s.build.isIndication f.command = true
  · by_cases hopen : f.command = s.build.code .reset .ind ∨ s.sig.readyGate = true
    · simp [hind, hopen, acknowledge_enqueueInd hlive]
    · cases hgate : s.build.gateClosed with
      | drop => simp [hind, hopen, acknowledge, hlive, armReply_eq_replied]
      | toConfirmQueue => simp [hind, hopen, acknowledge_enqueueCnf hlive]
  · simp [hind, acknowledge_enqueueCnf hlive]

theorem csumFail_eq_dropped : csumFail s = dropped s := by
  unfold csumFail dropped
  cases s.build.csumFail <;> rfl

/-- The last byte of a frame: received with the right checksum, dropped with another (42_rx_framer.md R160). -/
theorem rxChecksumMsb_eq (b : Byte) (hlive : s.fatal = none) : rxChecksumMsb b s =
    if (rxFrame s b).checksum = checksumOf s.rx.cmd s.rx.len s.rx.data then received (rxFrame s b) (frameClosed s)
    else dropped (frameClosed s) := by
  rw [← acknowledge_route (s := frameClosed s) hlive, ← csumFail_eq_dropped]
  unfold rxChecksumMsb acknowledge
  dsimp only
  congr 1
  split <;> simp_all [frameClosed]

end

/-! ## The row FRAME -/

theorem word16_eq_ofNat (lo hi : Byte) : word16 lo hi = BitVec.ofNat 16 (lo.toNat + 256 * hi.toNat) := by
  rw [← word16_toNat, BitVec.ofNat_toNat, BitVec.setWidth_eq]

/-- Settles O22: the registers hold the frame at its last byte, and the start byte draws before anything else. -/
theorem frameRowIsReceived : Obligations.FrameRowIsReceived := by
  intro stx c p lsb msb s hp hquiet hst len sum
  have hexec : exec (.frame stx c p lsb msb) s = .next (deliver (stx.byte :: len :: c :: (p ++ [lsb, msb])) s) :=
    (execFrame_of_fits (decide_eq_true hp)).trans (arrive_of_live hquiet.1 _)
  have hsum : word16 lsb msb = sum := word16_eq_ofNat lsb msb
  have hframe (hok : AllocOk s) : exec (.frame stx c p lsb msb) s = .next
      (if word16 lsb msb = checksumOf c len p then
        received { start := stx.byte, length := len, command := c, payload := p, checksum := word16 lsb msb }
          (collected stx.byte len c p lsb s)
      else dropped (collected stx.byte len c p lsb s)) := by
    rw [hexec, deliver_frame stx c lsb msb hp hquiet hst hok, rxChecksumMsb_eq (s := midFrame _ s) msb hquiet.1]
    rfl
  refine ⟨fun hok hright => ?_, fun hok hwrong => ?_, fun hnok => ?_⟩
  · rw [hframe hok, hsum, if_pos hright]
  · rw [hframe hok, hsum, if_neg hwrong]
  · rw [hexec, deliver_cons hquiet.1, rxByte_stx stx hquiet hst, rxFrameStart_exhausted _ hnok, deliver_of_fatal (by simp)]

/-! ## The rows of the command codes -/

/-- A command row is the row FRAME with its code and the right checksum bytes. -/
theorem arriveFrame_eq_execFrame (c : Byte) (stx : Stx) (p : Bytes) (s : State) : arriveFrame c stx p s =
    execFrame stx c p (lowByte (commandFrame c stx p).checksum) (highByte (commandFrame c stx p).checksum) s := rfl

theorem exec_commandInstr (v : Family × Variant) (stx : Stx) (p : Bytes) (s : State) :
    exec (commandInstr v stx p) s = arriveFrame (s.build.code v.1 v.2) stx p s := by
  obtain ⟨f, v⟩ := v
  cases f <;> cases v <;> rfl

theorem lowByte_eq_extractLsb' (w : Word16) : lowByte w = w.extractLsb' 0 8 := by
  apply BitVec.eq_of_toNat_eq
  simp [lowByte]

/-- Settles O24 from O22, with the frame's own checksum bytes. -/
theorem commandRowsAreRouted : Obligations.CommandRowsAreRouted := by
  intro i c stx p s hrow hp hquiet hst hok f
  have hexec : exec i s = exec (.frame stx c p (lowByte f.checksum) (highByte f.checksum)) s := by
    rcases hrow with ⟨v, -, rfl, rfl⟩ | rfl
    · exact exec_commandInstr v stx p s
    · exact arriveFrame_eq_execFrame c stx p s
  have hsum : BitVec.ofNat 16 ((lowByte f.checksum).toNat + 256 * (highByte f.checksum).toNat) = f.checksum := by
    rw [← word16_eq_ofNat, word16_lowByte_highByte]
  obtain ⟨hreceived, -⟩ := frameRowIsReceived stx c p (lowByte f.checksum) (highByte f.checksum) s hp hquiet hst
  rw [hexec, hreceived hok hsum, hsum, ← lowByte_eq_extractLsb']
  rfl

end Sys2Proof.Machine
end

section
/-! PROOFS. The frame builders (44_driver.md R200-R206), O28, and the header rows (46_session.md R264-R271), O47. -/
namespace Sys2Proof.Machine

/-! ## Builders -/

section
variable {s : State}

theorem frameNew_request (c : Byte) {p : Bytes} (hp : p.length ≤ 255) :
    frameNew Config.stxRequest (BitVec.ofNat 8 p.length) c p = some (request c p) := by
  have hlen : (BitVec.ofNat 8 p.length).toNat = p.length := by rw [BitVec.toNat_ofNat, Nat.mod_eq_of_lt (by omega)]
  have hstx : (stxOf Config.stxRequest).isSome = true := rfl
  simp [frameNew, request, hlen, hstx, show p.length ≤ Config.maxPayload from hp]

/-- A builder within its limit (44_driver.md, opening; 30_encoding.md R101). -/
theorem buildFrame_ok {fits : Bool} (hfits : fits = true) (c : Byte) {p : Bytes} (hp : p.length ≤ 255) (tag : SenderTag)
    (hok : AllocOk s) : buildFrame fits c p tag s = (.ok (request c p) tag, afterDraw s) := by
  simp [buildFrame, hfits, drawAlloc_ok hok, frameNew_request c hp]

theorem buildFrame_exhausted {fits : Bool} (hfits : fits = true) (c : Byte) (p : Bytes) (tag : SenderTag)
    (hnok : ¬ AllocOk s) : buildFrame fits c p tag s = (.fatal .allocFail, afterDraw s) := by
  simp [buildFrame, hfits, drawAlloc_exhausted hnok]

theorem optDl_append_length (hb : s.build.wf = true) {buf : Bytes} (h : buf.length ≤ 242) :
    (s.build.optDl ++ buf).length ≤ 255 := by
  have hopt : s.build.optDl.length ≤ 13 := by simp_all [Build.wf]
  simp; omega

theorem optPhy_append_length (hb : s.build.wf = true) {buf : Bytes} (h : buf.length ≤ 250) :
    (s.build.optPhy ++ buf).length ≤ 255 := by
  have hopt : s.build.optPhy.length ≤ 5 := by simp_all [Build.wf]
  simp; omega

/-- DRV_DATA within its limit builds the request of its data service (44_driver.md R206). -/
theorem buildData_ok (hb : s.build.wf = true) {app : Bytes} (hlen : app.length ≤ dataLimit s.build) (hok : AllocOk s) :
    buildData app s = (.ok (dataRequest s.build app).1 (dataRequest s.build app).2, afterDraw s) := by
  unfold buildData dataRequest
  unfold dataLimit at hlen
  cases hservice : s.build.dataService <;> simp only [hservice] at hlen ⊢
  case dl => exact buildFrame_ok (decide_eq_true hlen) _ (optDl_append_length hb hlen) _ hok
  case phy => exact buildFrame_ok (decide_eq_true hlen) _ (optPhy_append_length hb hlen) _ hok

theorem buildData_exhausted {app : Bytes} (hlen : app.length ≤ dataLimit s.build) (hnok : ¬ AllocOk s) :
    buildData app s = (.fatal .allocFail, afterDraw s) := by
  unfold buildData
  unfold dataLimit at hlen
  cases hservice : s.build.dataService <;> simp only [hservice] at hlen ⊢ <;>
    exact buildFrame_exhausted (decide_eq_true hlen) _ _ _ hnok

theorem buildData_tooLong {app : Bytes} (hlen : dataLimit s.build < app.length) :
    buildData app s = (.err .errArgs, s) := by
  unfold buildData
  unfold dataLimit at hlen
  cases hservice : s.build.dataService <;> simp only [hservice] at hlen ⊢ <;>
    exact if_neg (by simpa using hlen)

/-- A live builder called directly answers with its frame and tag. -/
theorem callBuilder_ok {o : Built × State} {f : Frame} {tag : SenderTag} (hlive : s.fatal = none)
    (h : o = (.ok f tag, afterDraw s)) : ifLive s (.next (buildResult o)) = .next { afterDraw s with result := .built f tag } := by
  rw [ifLive_of_live hlive, h, buildResult]

end

/-- Settles O28: with its option bytes each payload still fits a frame. -/
theorem buildersBuildRequests : Obligations.BuildersBuildRequests := by
  intro index buf s hb hlive hok built
  refine ⟨?_, ?_, fun hlen => ?_, fun hlen => ?_, fun hlen => ?_, fun hlen => ?_, fun hdl hlen => ?_, fun hphy hlen => ?_⟩
  · exact callBuilder_ok hlive (buildFrame_ok rfl _ (by simp) _ hok)
  · exact callBuilder_ok hlive (buildFrame_ok rfl _ (by simp) _ hok)
  · have hfits : 1 + buf.length ≤ Config.maxMibWriteTotal := by unfold Config.maxMibWriteTotal; omega
    exact callBuilder_ok hlive (buildFrame_ok (decide_eq_true hfits) _ (by simp; omega) _ hok)
  · exact callBuilder_ok hlive (buildFrame_ok (decide_eq_true hlen) _ (by omega) _ hok)
  · exact callBuilder_ok hlive (buildFrame_ok (decide_eq_true hlen) _ (optPhy_append_length hb hlen) _ hok)
  · exact callBuilder_ok hlive (buildFrame_ok (decide_eq_true hlen) _ (optDl_append_length hb hlen) _ hok)
  · have hbuilt := buildData_ok hb (app := buf) (by rw [dataLimit, hdl]; exact hlen) hok
    rw [dataRequest, hdl] at hbuilt
    exact callBuilder_ok hlive hbuilt
  · have hbuilt := buildData_ok hb (app := buf) (by rw [dataLimit, hphy]; exact hlen) hok
    rw [dataRequest, hphy] at hbuilt
    exact callBuilder_ok hlive hbuilt

/-! ## SEND_APP -/

section
variable {s : State} {app : Bytes}

theorem sendApp_ok (hb : s.build.wf = true) (hidle : seqIdle s = true) (hlen : app.length ≤ dataLimit s.build)
    (hok : AllocOk s) : sendApp app s = .ok (handedOver app s) := by
  have hidle' : seqIdle (afterDraw s) = true := hidle
  simp only [sendApp, buildData_ok hb hlen hok, seqEnqueue, hidle', if_true]
  rfl

theorem sendApp_exhausted (hlen : app.length ≤ dataLimit s.build) (hnok : ¬ AllocOk s) :
    sendApp app s = .fatal .allocFail (afterDraw s) := by
  simp only [sendApp, buildData_exhausted hlen hnok]

theorem sendApp_tooLong (hlen : dataLimit s.build < app.length) : sendApp app s = .err .errArgs s := by
  simp only [sendApp, buildData_tooLong hlen]

end

/-! ## A header read by the session -/

section
variable {s : State}

/-- A state with no task event in progress is one whose task event was ended. -/
theorem exists_ended (h : s.task = none) : ∃ u, s = ended u := ⟨s, by unfold ended; rw [← h]⟩

/-- q_usb_in after data for the host: dropped when it is full (46_session.md R266). -/
def withInbound (d : Bytes) (usbIn : List Bytes) : List Bytes :=
  if usbIn.length < Config.capUsbIn then usbIn ++ [d] else usbIn

theorem handedToHost_eq (d : Bytes) (s : State) : handedToHost d s = { s with q.usbIn := withInbound d s.q.usbIn } := by
  unfold handedToHost withInbound
  split <;> rfl

theorem enqueueUsbIn_eq (d : Bytes) (s : State) : enqueueUsbIn d s = { s with q.usbIn := withInbound d s.q.usbIn } := by
  unfold withInbound
  rcases enqueueUsbIn_cases d s with ⟨hroom, h⟩ | ⟨hfull, h⟩ <;> rw [h]
  · rw [if_pos hroom]
  · rw [if_neg (by omega)]

/-- Data for the host are handed over in one primitive step, and the event ends (46_session.md R264, R266). -/
theorem ldrStep_putIn (htask : s.task = none) (d : Bytes) :
    ldrStep (.putIn d) (standing (.ldr (.putIn d)) s) = handedToHost d { s with ldr.state := .dispatch } := by
  obtain ⟨u, rfl⟩ := exists_ended htask
  rw [ldrStep, enqueueUsbIn_eq, handedToHost_eq]
  rfl

theorem flwStep_putIn (htask : s.task = none) (d : Bytes) :
    flwStep (.putIn d) (standing (.flw (.putIn d)) s) = handedToHost d s := by
  obtain ⟨u, rfl⟩ := exists_ended htask
  rw [flwStep, enqueueUsbIn_eq, handedToHost_eq]
  rfl

/-- The answer to a session ping, with its payload and q_usb_out as it is then (46_session.md R271). -/
def repliesWith (app : Bytes) (t : State) : State :=
  if dataLimit t.build < app.length then t
  else if t.env.alloc.head? = some false then { afterDraw t with fatal := some .allocFail }
  else { handedOver app t with flw := .send }

theorem followerReplies_nil (h : s.q.usbOut = []) : followerReplies s = repliesWith [Config.hdrIdle] s := by
  have hsame : { s with q.usbOut := s.q.usbOut.tail } = s := by rw [h, List.tail_nil, ← h]
  unfold followerReplies
  rw [hsame, h]
  rfl

theorem followerReplies_cons {buf : Bytes} {rest : List Bytes} (h : s.q.usbOut = buf :: rest) :
    followerReplies s = repliesWith (Config.hdrData :: buf) { s with q.usbOut := rest } := by
  unfold followerReplies
  rw [h]
  rfl

theorem flwReply_standing (p : TaskPoint) (htask : s.task = none) (hb : s.build.wf = true) (hidle : seqIdle s = true)
    (app : Bytes) : flwReply app (standing p s) = repliesWith app s := by
  obtain ⟨u, rfl⟩ := exists_ended htask
  unfold flwReply repliesWith
  split_ifs with hlong hnok
  · rw [sendApp_tooLong (s := standing p (ended u)) hlong]
    rfl
  · rw [sendApp_exhausted (s := standing p (ended u)) (Nat.not_lt.mp hlong) (not_not.mpr hnok)]
    rfl
  · rw [sendApp_ok (s := standing p (ended u)) hb hidle (Nat.not_lt.mp hlong) hnok]
    rfl

theorem flwStep_takeOut (htask : s.task = none) (hb : s.build.wf = true) (hidle : seqIdle s = true) :
    flwStep .takeOut (standing (.flw .takeOut) s) = followerReplies s := by
  unfold flwStep
  cases hout : s.q.usbOut with
  | nil =>
    simp only [standing_q, hout, dequeue_nil]
    rw [followerReplies_nil hout]
    exact flwReply_standing _ htask hb hidle _
  | cons buf rest =>
    simp only [standing_q, hout, dequeue_cons]
    rw [followerReplies_cons hout]
    exact flwReply_standing (s := { s with q.usbOut := rest }) _ htask hb hidle _

theorem followerReplies_task (s : State) : (followerReplies s).task = s.task := by
  cases hout : s.q.usbOut with
  | nil => rw [followerReplies_nil hout, repliesWith]; split_ifs <;> rfl
  | cons buf rest => rw [followerReplies_cons hout, repliesWith]; split_ifs <;> rfl

theorem handedToHost_task (d : Bytes) (s : State) : (handedToHost d s).task = s.task := by rw [handedToHost_eq]

/-! ### To the end of the task event -/

theorem runTask_ended (n : Nat) (h : s.task = none) : runTask n (ended s) = .next s := by
  obtain ⟨u, rfl⟩ := exists_ended h
  exact runTask_of_none n rfl

theorem runTask_fatalEnd (n : Nat) (r : FatalReason) (h : s.task = none) :
    runTask n (fatalEnd r s) = .next { s with fatal := some r } := by
  obtain ⟨u, rfl⟩ := exists_ended h
  exact runTask_of_none n rfl

theorem runTask_last {t : State} {p : TaskPoint} (n : Nat) (h : taskStep p (standing p s) = .next t) (ht : t.task = none) :
    runTask (n + 1) (standing p s) = .next t := by
  rw [runTask_of_step n rfl h, runTask_of_none n ht]

/-- The Leader's reading takes at most one more primitive step (46_session.md R264, R266). -/
theorem runTask_leaderGoesOn (htask : s.task = none) (n : Nat) (app : Bytes) :
    runTask (n + 1) (leaderGoesOn app s) = .next (leaderReads app s) := by
  unfold leaderGoesOn leaderReads
  cases app with
  | nil => exact runTask_ended _ htask
  | cons h d =>
    dsimp only
    split_ifs
    · exact runTask_fatalEnd _ _ htask
    · exact runTask_fatalEnd (s := afterDraw s) _ _ htask
    · exact runTask_last n (congrArg Host.Outcome.next (ldrStep_putIn (s := afterDraw s) htask d))
        ((handedToHost_task d _).trans htask)
    · exact runTask_ended _ htask

/-- So does the Follower's (46_session.md R270, R271, R266). -/
theorem runTask_followerGoesOn (htask : s.task = none) (hb : s.build.wf = true) (hidle : seqIdle s = true) (n : Nat)
    (app : Bytes) : runTask (n + 1) (followerGoesOn app s) = .next (followerReads app s) := by
  unfold followerGoesOn followerReads
  cases app with
  | nil => exact runTask_ended _ htask
  | cons h d =>
    dsimp only
    split_ifs
    · exact runTask_fatalEnd (s := afterDraw s) _ _ htask
    · exact runTask_last n (congrArg Host.Outcome.next (flwStep_putIn (s := afterDraw s) htask d))
        ((handedToHost_task d _).trans htask)
    · exact runTask_last n (congrArg Host.Outcome.next (flwStep_takeOut htask hb hidle))
        ((followerReplies_task s).trans htask)
    · exact runTask_fatalEnd _ _ htask
    · exact runTask_ended _ htask

/-! ### The header rows -/

theorem onApp_leader {app : Bytes} (hrole : s.build.role = .leader) : onApp app s = leaderGoesOn app s := by
  rw [onApp, hrole]
  exact ldrOnApp_eq_leaderGoesOn app s

theorem onApp_follower {app : Bytes} (hrole : s.build.role = .follower) : onApp app s = followerGoesOn app s := by
  rw [onApp, hrole]
  exact flwOnApp_eq_followerGoesOn app s

/-- Every header row is the reading of its application payload (log entry 15). -/
theorem exec_headerRow {i : Instr} {app d : Bytes} {h : Byte}
    (hrow : (i, app) ∈ [(Instr.hdrIdle d, 0x00 :: d), (.hdrData d, 0x01 :: d), (.hdrPing d, 0x02 :: d),
      (.hdrReserved (some h) d, h :: d), (.hdrReserved none d, [])]) : exec i s = readApp app s := by
  simp only [List.mem_cons, Prod.mk.injEq, List.not_mem_nil, or_false] at hrow
  obtain ⟨rfl, rfl⟩ | ⟨rfl, rfl⟩ | ⟨rfl, rfl⟩ | ⟨rfl, rfl⟩ | ⟨rfl, rfl⟩ := hrow <;> rfl

/-- Where the session reads headers, a payload that a frame can carry is read and gone on with until the event ends. -/
theorem readApp_of_reads {app : Bytes} (hlive : s.fatal = none) (hreads : readsHeaders s = true)
    (hlen : s.build.indOffset.val + app.length ≤ 255) : readApp app s = runTask (taskFuel s) (onApp app s) := by
  rw [readApp, ifLive_of_live hlive, hreads]
  exact if_pos hlen

end

/-- Settles O47: the reading of the session's state, begun as Safety.lean says and run to its end. -/
theorem headerRowsAreRead : Obligations.HeaderRowsAreRead := by
  intro i app d h s hrow ⟨⟨hlive, htask, _⟩, hdone, hgate⟩ hb hlen
  have hread (hreads : readsHeaders s = true) : exec i s = runTask (taskFuel s) (onApp app s) :=
    (exec_headerRow hrow).trans (readApp_of_reads hlive hreads hlen)
  refine ⟨fun hrole hstate => ?_, fun hrole hstate hstage htag => ?_⟩
  · rw [hread (by simp [readsHeaders, sessionEnabled, hdone, hgate, htask, hrole, hstate]), onApp_leader hrole]
    exact runTask_leaderGoesOn htask _ app
  · rw [hread (by simp [readsHeaders, sessionEnabled, hdone, hgate, htask, hrole, hstate]), onApp_follower hrole]
    exact runTask_followerGoesOn htask hb (by simp [seqIdle, hstage, htag]) _ app

end Sys2Proof.Machine
end

section
/-! PROOFS. The Timeout operations (40_timeout.md R120-R123), O10, and a Timeout across a wrap of the clock (60_exceptions.md R322), O11:
the rules of the Timeout registers, the arithmetic of elapsed ticks, and one equation for each operation on a Timeout the build has. -/
namespace Sys2Proof.Machine

/-! ## The Timeout registers -/

/-- The state when the clock has moved on by `n` ticks, modulo 2^32, and nothing else has happened (60_exceptions.md R322). -/
def advanced (n : Word32) (s : State) : State := { s with clock := s.clock + n }

section
variable (t : TimeoutId) (v : Timeout) (s : State)

@[simp] theorem getTimeoutReg_setTimeoutReg : getTimeoutReg t (setTimeoutReg t v s) = v := by cases t <;> rfl

/-- A write touches the named Timeout alone: its old value put back, the state is the old one. -/
@[simp] theorem setTimeoutReg_restores : setTimeoutReg t (getTimeoutReg t s) (setTimeoutReg t v s) = s := by cases t <;> rfl

@[simp] theorem setTimeoutReg_fatal : (setTimeoutReg t v s).fatal = s.fatal := by cases t <;> rfl

@[simp] theorem setTimeoutReg_clock : (setTimeoutReg t v s).clock = s.clock := by cases t <;> rfl

@[simp] theorem getTimeoutReg_advanced (n : Word32) : getTimeoutReg t (advanced n s) = getTimeoutReg t s := by
  cases t <;> rfl

end

/-- The Timeouts of the Leader session are the only ones that a build may lack (10_state.md R38). -/
theorem timeoutExists_iff (t : TimeoutId) (s : State) :
    timeoutExists t s = true ↔ s.build.role = .leader ∨ (t ≠ .ldrFail ∧ t ≠ .ldrPing) := by
  cases t <;> simp [timeoutExists]

@[simp] theorem timeoutExists_setTimeoutReg (t : TimeoutId) (v : Timeout) (s : State) :
    timeoutExists t (setTimeoutReg t v s) = timeoutExists t s := by
  cases t <;> rfl

/-! ## Elapsed ticks -/

/-- The product of R121 does not overflow: at most 65535 milliseconds of 1000 ticks (00_scope.md R10). -/
theorem ticks_toNat (rate : TickRate) (ms : Word16) : (ticks rate ms.toNat).toNat = ms.toNat * rate.perMs := by
  have hms := ms.isLt
  have hfits : ms.toNat * rate.perMs < 2 ^ 32 := by cases rate <;> simp only [TickRate.perMs] <;> omega
  rw [ticks, BitVec.toNat_ofNat, Nat.mod_eq_of_lt hfits]

/-- The test of an armed Timeout in numbers: the ticks elapsed, modulo 2^32, against the duration (40_timeout.md R122). -/
theorem expired_of_armed {r : Timeout} (s : State) (h : r.armed = true) :
    expired s r = decide (r.duration.toNat ≤ (s.clock.toNat + (2 ^ 32 - r.start.toNat)) % 2 ^ 32) := by
  simp only [expired, h, Bool.true_and, BitVec.le_def, BitVec.toNat_sub, Nat.add_comm]

/-- Of a Timeout set at `s` and tested when the clock has moved on by `n`, wherever `s` has the clock (40_timeout.md R120). -/
theorem expired_armed_later {s u : State} {n : Word32} (ms : Word16) (hclock : u.clock = s.clock + n) :
    expired u (armed s ms.toNat) = decide (ms.toNat * s.build.tickRate.perMs ≤ n.toNat) := by
  have helapsed : u.clock - s.clock = n := by rw [hclock, BitVec.add_comm, BitVec.add_sub_cancel]
  simp only [expired, armed, Bool.true_and, helapsed, BitVec.le_def, ticks_toNat]

/-! ## The operations in a live state -/

section
variable {t : TimeoutId} {s : State}

theorem exec_timeoutSet (ms : Word16) (hlive : s.fatal = none) (hex : timeoutExists t s = true) :
    exec (.timeoutSet t ms) s = .next (setTimeoutReg t (armed s ms.toNat) s) :=
  (ifLive_of_live hlive _).trans (if_pos hex)

theorem exec_timeoutDisarm (hlive : s.fatal = none) (hex : timeoutExists t s = true) :
    exec (.timeoutDisarm t) s = .next (setTimeoutReg t (getTimeoutReg t s).disarm s) :=
  (ifLive_of_live hlive _).trans (if_pos hex)

theorem exec_timeoutExpired (hlive : s.fatal = none) (hex : timeoutExists t s = true) :
    exec (.timeoutExpired t) s = .next { s with result := .flag (expired s (getTimeoutReg t s)) } :=
  (ifLive_of_live hlive _).trans (if_pos hex)

theorem exec_clockAdvance {n : Word32} (hlive : s.fatal = none) (hn : n ≠ 0) :
    exec (.clockAdvance n) s = .next (advanced n s) :=
  (ifLive_of_live hlive _).trans (if_neg hn)

end

theorem runAll_cons_of_next {i : Instr} {s t : State} (is : List Instr) (h : exec i s = .next t) :
    runAll (i :: is) s = runAll is t := by
  rw [runAll, h]

/-- The register still holds what TIMEOUT_SET wrote when the clock has moved on by `n`, and is then `n` ticks old. -/
theorem runAll_timeoutSet_clockAdvance_timeoutExpired {t : TimeoutId} {n : Word32} {s : State} (ms : Word16)
    (hlive : s.fatal = none) (hn : n ≠ 0) (hex : timeoutExists t s = true) :
    runAll [.timeoutSet t ms, .clockAdvance n, .timeoutExpired t] s =
      .next { advanced n (setTimeoutReg t (armed s ms.toNat) s) with
        result := .flag (decide (ms.toNat * s.build.tickRate.perMs ≤ n.toNat)) } := by
  have hlive' := (setTimeoutReg_fatal t (armed s ms.toNat) s).trans hlive
  have hex' := (timeoutExists_setTimeoutReg t (armed s ms.toNat) s).trans hex
  have hclock := congrArg (· + n) (setTimeoutReg_clock t (armed s ms.toNat) s)
  rw [runAll_cons_of_next _ (exec_timeoutSet ms hlive hex), runAll_cons_of_next _ (exec_clockAdvance hlive' hn),
    runAll_cons_of_next _ (exec_timeoutExpired (s := advanced n _) hlive' hex'), getTimeoutReg_advanced,
    getTimeoutReg_setTimeoutReg, expired_armed_later ms hclock, runAll]

/-- Settles O11: the run of the three operations, of which the answer is read. -/
theorem timeoutExactAcrossWrap : Obligations.TimeoutExactAcrossWrap := by
  intro t ms n s hlive hn hbuild
  exact ⟨_, runAll_timeoutSet_clockAdvance_timeoutExpired ms hlive hn ((timeoutExists_iff t s).mpr hbuild), rfl⟩

/-- Settles O10: the equation of each operation, and the rules of the register it writes or reads. -/
theorem timeoutOperations : Obligations.TimeoutOperations := by
  intro t ms s hlive hbuild
  have hex := (timeoutExists_iff t s).mpr hbuild
  refine ⟨⟨_, exec_timeoutSet ms hlive hex, ?_⟩, ⟨_, exec_timeoutDisarm hlive hex, ?_⟩, fun harmed => ?_, fun harmed => ?_⟩
  · rw [getTimeoutReg_setTimeoutReg]
    exact ⟨rfl, rfl, ticks_toNat _ ms, setTimeoutReg_restores t _ s⟩
  · exact ⟨getTimeoutReg_setTimeoutReg t _ s, setTimeoutReg_restores t _ s⟩
  · rw [exec_timeoutExpired hlive hex, expired_of_unarmed s harmed]
  · rw [exec_timeoutExpired hlive hex, expired_of_armed s harmed]

end Sys2Proof.Machine
end

section
/-! PROOFS. The frame codec (41_frame_codec.md R130-R136), O5 to O9: the checksum as an exact sum modulo 2^16, what flipping a bit adds
to it, and the operations on frames. -/
namespace Sys2Proof.Machine

/-! ## The checksum as a sum -/

/-- R130 and R135 in one: adding byte by byte modulo 2^16 is the exact sum modulo 2^16. -/
theorem foldl_add_setWidth (p : Bytes) (n : Nat) :
    p.foldl (fun s x => s + x.setWidth 16) (BitVec.ofNat 16 n) = BitVec.ofNat 16 (n + (p.map BitVec.toNat).sum) := by
  induction p generalizing n with
  | nil => rfl
  | cons x p ih =>
    have hadd : BitVec.ofNat 16 n + x.setWidth 16 = BitVec.ofNat 16 (n + x.toNat) := by
      rw [BitVec.ofNat_add, BitVec.ofNat_toNat]
    rw [List.foldl_cons, hadd, ih, List.map_cons, List.sum_cons, Nat.add_assoc]

theorem checksumOf_eq_ofNat (c l : Byte) (p : Bytes) :
    checksumOf c l p = BitVec.ofNat 16 (c.toNat + l.toNat + (p.map BitVec.toNat).sum) := by
  rw [← foldl_add_setWidth, BitVec.ofNat_add, BitVec.ofNat_toNat, BitVec.ofNat_toNat, checksumOf]

theorem sum_toNat_le (p : Bytes) : (p.map BitVec.toNat).sum ≤ p.length * 255 := by
  have hbyte : ∀ n ∈ p.map BitVec.toNat, n ≤ 255 := by
    simp only [List.mem_map, forall_exists_index, and_imp]
    rintro _ x - rfl
    exact Nat.le_of_lt_succ x.isLt
  simpa using List.sum_le_card_nsmul _ 255 hbyte

/-- Settles O5: the checksum of the operands is their exact sum modulo 2^16. -/
theorem checksumIsWrappingSum : Obligations.ChecksumIsWrappingSum := by
  intro c l p s hlive
  rw [← checksumOf_eq_ofNat]
  exact ifLive_of_live hlive _

/-- Settles O6: 257 bytes sum to at most 257 * 255 = 65535. -/
theorem checksumNeverWraps : Obligations.ChecksumNeverWraps := by
  intro c l p hp
  have hsum := sum_toNat_le p
  have hle : c.toNat + l.toNat + (p.map BitVec.toNat).sum ≤ 65535 := by
    have hc := c.isLt
    have hl := l.isLt
    omega
  refine ⟨hle, ?_⟩
  rw [checksumOf_eq_ofNat, BitVec.toNat_ofNat, Nat.mod_eq_of_lt (Nat.lt_succ_of_le hle)]

/-! ## Bit flips -/

theorem checksumOf_eq_sum (c l : Byte) (p : Bytes) :
    checksumOf c l p = c.setWidth 16 + l.setWidth 16 + (p.map (BitVec.setWidth 16)).sum := by
  rw [checksumOf, ← List.foldl_map, List.sum_eq_foldl,
    ← List.foldl_assoc (op := ((· + ·) : Word16 → Word16 → Word16)), add_zero]

/-- Replacing one payload byte changes the sum by the difference. -/
theorem checksumOf_set (c l : Byte) {p : Bytes} {i : Nat} {x : Byte} (h : p[i]? = some x) (y : Byte) :
    checksumOf c l (p.set i y) = checksumOf c l p + (y.setWidth 16 - x.setWidth 16) := by
  obtain ⟨hi, hx⟩ := List.getElem?_eq_some_iff.mp h
  have hi' : i < (p.map (BitVec.setWidth 16)).length := by simpa using hi
  rw [checksumOf_eq_sum, checksumOf_eq_sum, List.map_set, List.sum_set', dif_pos hi', List.getElem_map, hx]
  ring

theorem ofNat_two_pow (w k : Nat) : BitVec.ofNat w (2 ^ k) = BitVec.twoPow w k := by
  apply BitVec.eq_of_toNat_eq
  rw [BitVec.toNat_ofNat, BitVec.toNat_twoPow]

theorem xor_twoPow_of_clear {w k : Nat} {v : BitVec w} (h : v.getLsbD k = false) :
    v ^^^ BitVec.twoPow w k = v + BitVec.twoPow w k := by
  have hdisjoint : v &&& BitVec.twoPow w k = 0#w := by simp [BitVec.and_twoPow, h]
  rw [BitVec.add_eq_or_of_and_eq_zero _ _ hdisjoint]
  ext i hi
  by_cases hik : i = k
  · subst hik
    simp_all
  · simp [hik]

theorem xor_twoPow_of_set {w k : Nat} {v : BitVec w} (h : v.getLsbD k = true) :
    v ^^^ BitVec.twoPow w k = v - BitVec.twoPow w k := by
  have hk : k < w := BitVec.lt_of_getLsbD h
  have hclear : (v ^^^ BitVec.twoPow w k).getLsbD k = false := by simp [h, hk]
  have hback := xor_twoPow_of_clear hclear
  rw [BitVec.xor_assoc, BitVec.xor_self, BitVec.xor_zero] at hback
  exact eq_sub_of_add_eq hback.symm

/-- The byte with bit `k` flipped (41_frame_codec.md R136). -/
def flipBit (k : Nat) (x : Byte) : Byte := x ^^^ BitVec.ofNat 8 (2 ^ k)

section
variable {k : Nat} {x : Byte}

theorem flipBit_setWidth (hk : k < 8) : (flipBit k x).setWidth 16 = x.setWidth 16 ^^^ BitVec.twoPow 16 k := by
  have hbit : (BitVec.twoPow 8 k).setWidth 16 = BitVec.twoPow 16 k := by interval_cases k <;> rfl
  rw [flipBit, ofNat_two_pow, BitVec.setWidth_xor, hbit]

theorem flipBit_of_clear (hk : k < 8) (h : x.getLsbD k = false) :
    (flipBit k x).setWidth 16 = x.setWidth 16 + BitVec.ofNat 16 (2 ^ k) := by
  rw [flipBit_setWidth hk, ofNat_two_pow]
  exact xor_twoPow_of_clear (by simp [h])

theorem flipBit_of_set (hk : k < 8) (h : x.getLsbD k = true) :
    (flipBit k x).setWidth 16 = x.setWidth 16 - BitVec.ofNat 16 (2 ^ k) := by
  rw [flipBit_setWidth hk, ofNat_two_pow]
  exact xor_twoPow_of_set (by simp [h, Nat.lt_of_lt_of_le hk])

/-- `v` is the sum `w` changed by plus or minus 2^k, and so changed (41_frame_codec.md R136). -/
def ChangedBy (k : Nat) (w v : Word16) : Prop :=
  (v = w + BitVec.ofNat 16 (2 ^ k) ∨ v = w - BitVec.ofNat 16 (2 ^ k)) ∧ v ≠ w

theorem changedBy_of_add (hk : k < 8) {w v d : Word16} (hv : v = w + d)
    (hd : d = BitVec.ofNat 16 (2 ^ k) ∨ d = -BitVec.ofNat 16 (2 ^ k)) : ChangedBy k w v := by
  have hpow : BitVec.ofNat 16 (2 ^ k) ≠ 0 := by interval_cases k <;> decide
  subst hv
  refine ⟨hd.imp (by rintro rfl; rfl) (by rintro rfl; exact (sub_eq_add_neg _ _).symm), fun hsame => ?_⟩
  have hzero : d = 0 := by simpa using hsame
  rcases hd with rfl | rfl
  · exact hpow hzero
  · exact hpow (neg_eq_zero.mp hzero)

/-- What a flip adds to the sum. -/
theorem flipBit_sub (hk : k < 8) (x : Byte) :
    (flipBit k x).setWidth 16 - x.setWidth 16 = BitVec.ofNat 16 (2 ^ k) ∨
    (flipBit k x).setWidth 16 - x.setWidth 16 = -BitVec.ofNat 16 (2 ^ k) := by
  cases h : x.getLsbD k with
  | false => exact .inl (by rw [flipBit_of_clear hk h]; ring)
  | true => exact .inr (by rw [flipBit_of_set hk h]; ring)

end

/-- Settles O7: a flip adds its own difference to the sum, and two of opposite sign add up to nothing. -/
theorem singleBitFlipChangesChecksum : Obligations.SingleBitFlipChangesChecksum := by
  intro c l p k hk changed flip
  have hchanged {v d : Word16} (hv : v = checksumOf c l p + d) := changedBy_of_add hk hv
  refine ⟨hchanged ?_ (flipBit_sub hk c), hchanged ?_ (flipBit_sub hk l), fun i x hx => ?_,
    fun i j x y hx hy hclear hset => ?_⟩
  · simp only [checksumOf_eq_sum, flip, flipBit]; ring
  · simp only [checksumOf_eq_sum, flip, flipBit]; ring
  · exact hchanged (checksumOf_set c l hx (flipBit k x)) (flipBit_sub hk x)
  · have hne : i ≠ j := by
      rintro rfl
      rw [Option.some.inj (hx.symm.trans hy), hset] at hclear
      cases hclear
    have hy' : (p.set i (flipBit k x))[j]? = some y := by rw [List.getElem?_set_ne hne, hy]
    calc checksumOf c l ((p.set i (flipBit k x)).set j (flipBit k y))
        = checksumOf c l p + ((flipBit k x).setWidth 16 - x.setWidth 16) + ((flipBit k y).setWidth 16 - y.setWidth 16) := by
          rw [checksumOf_set c l hy', checksumOf_set c l hx]
      _ = checksumOf c l p := by rw [flipBit_of_clear hk hclear, flipBit_of_set hk hset]; ring

/-! ## FRAME_NEW, FRAME_CHECKSUM and FRAME_SERIALISE -/

theorem stxOf_isSome_iff (b : Byte) : (stxOf b).isSome = true ↔ b = 0x02 ∨ b = 0x03 := by
  unfold stxOf Config.stxRequest Config.stxIndication
  split_ifs <;> simp_all

/-- FRAME_NEW by its `require` (41_frame_codec.md R131). -/
theorem frameNew_eq (start length command : Byte) (p : Bytes) : frameNew start length command p =
    if p.length ≤ 255 ∧ length.toNat = p.length ∧ (start = 0x02 ∨ start = 0x03) then
      some { start := start, length := length, command := command, payload := p,
             checksum := checksumOf command length p }
    else none := by
  simp only [frameNew, ← stxOf_isSome_iff, Bool.and_eq_true, decide_eq_true_eq, and_assoc]
  rfl

theorem exec_frameNew_of_some {start length command : Byte} {p : Bytes} {s : State} {f : Frame} (hlive : s.fatal = none)
    (h : frameNew start length command p = some f) :
    exec (.frameNew start length command p) s = .next { s with result := .frame f } :=
  (ifLive_of_live hlive _).trans (by rw [h])

theorem exec_frameNew_of_none {start length command : Byte} {p : Bytes} {s : State} (hlive : s.fatal = none)
    (h : frameNew start length command p = none) :
    exec (.frameNew start length command p) s = .next (raise .frameInvariant s) :=
  (ifLive_of_live hlive _).trans (by rw [h])

/-- Settles O8, by whether the operands meet the `require`. -/
theorem frameNewBuildsOrFaults : Obligations.FrameNewBuildsOrFaults := by
  intro start length command p s hlive
  have hnew := frameNew_eq start length command p
  refine ⟨fun hp hlen hstart => ?_, fun hnot => ?_⟩
  · rw [if_pos ⟨hp, hlen, hstart⟩] at hnew
    exact ⟨_, exec_frameNew_of_some hlive hnew, (frameNew_some hnew).2, rfl⟩
  · rw [if_neg hnot] at hnew
    exact exec_frameNew_of_none hlive hnew

theorem highByte_eq_extractLsb' (w : Word16) : highByte w = w.extractLsb' 8 8 := by
  apply BitVec.eq_of_toNat_eq
  simp [highByte]

theorem serialise_length {f : Frame} (hf : frameWf f = true) : (serialise f).length = f.length.toNat + 5 := by
  obtain ⟨-, hlen, -⟩ := frameWf_iff.mp hf
  simp [serialise, hlen]

/-- Settles O9: the two answers as they stand, and the length of the wire bytes. -/
theorem frameChecksumAndSerialise : Obligations.FrameChecksumAndSerialise := by
  intro f s hlive
  refine ⟨ifLive_of_live hlive _, ?_, serialise_length⟩
  rw [← lowByte_eq_extractLsb', ← highByte_eq_extractLsb']
  exact ifLive_of_live hlive _

end Sys2Proof.Machine
end

section
/-! PROOFS. The round trip of a frame (41_frame_codec.md R137), O23: a byte inside a frame as a function of the RX framer's registers,
the bytes of a serialisation taken one after another by it, and its last byte; then runs with other instructions between the bytes,
which leave those registers but for the timer, and runs with the clock alone moving between them. -/
namespace Sys2Proof.Machine

/-! ## Runs -/

theorem runAll_cons_next {i : Instr} {is : List Instr} {s u : State} (h : runAll (i :: is) s = .next u) :
    ∃ t, exec i s = .next t ∧ runAll is t = .next u := by
  rw [runAll] at h
  split at h
  · exact ⟨_, ‹_›, h⟩
  · cases h
  · cases h

theorem runAll_append_of_next {is : List Instr} {s t : State} (h : runAll is s = .next t) (js : List Instr) :
    runAll (is ++ js) s = runAll js t := by
  induction is generalizing s with
  | nil => cases h; rfl
  | cons i is ih =>
    obtain ⟨u, hi, his⟩ := runAll_cons_next h
    rw [List.cons_append, runAll_cons_of_next _ hi, ih his]

theorem runAll_append_next {is js : List Instr} {s u : State} (h : runAll (is ++ js) s = .next u) :
    ∃ t, runAll is s = .next t ∧ runAll js t = .next u := by
  induction is generalizing s with
  | nil => exact ⟨s, rfl, h⟩
  | cons i is ih =>
    obtain ⟨v, hi, his⟩ := runAll_cons_next h
    obtain ⟨t, ht, hjs⟩ := ih his
    exact ⟨t, (runAll_cons_of_next is hi).trans ht, hjs⟩

theorem exec_rxByte {s : State} (h : s.fatal = none) (b : Byte) : exec (.rxByte b) s = .next (rxByte b s) := ifLive_of_live h _

theorem exec_rxByte_next {b : Byte} {s t : State} (h : exec (.rxByte b) s = .next t) : s.fatal = none ∧ t = rxByte b s := by
  obtain ⟨hlive, ht⟩ := ifLive_next h
  exact ⟨hlive, (Host.Outcome.next.inj ht).symm⟩

theorem spaced_cons (b : Byte) (bs : Bytes) (gs : List (List Instr)) :
    spaced (b :: bs) gs = .rxByte b :: (gs.headD [] ++ spaced bs gs.tail) := by
  cases gs <;> rfl

/-- A last byte with nothing after it. -/
theorem spaced_concat {bs : Bytes} {gs : List (List Instr)} (b : Byte) (h : gs.length ≤ bs.length) :
    spaced (bs ++ [b]) gs = spaced bs gs ++ [.rxByte b] := by
  induction bs generalizing gs with
  | nil => rw [List.eq_nil_of_length_eq_zero (Nat.le_zero.mp h)]; rfl
  | cons a bs ih =>
    have htail : gs.tail.length ≤ bs.length := by simpa using h
    rw [List.cons_append, spaced_cons, spaced_cons, ih htail, List.cons_append, List.append_assoc]

theorem runAll_spaced_of_next {b : Byte} {gs : List (List Instr)} {s t : State} (hlive : s.fatal = none)
    (h : runAll (gs.headD []) (rxByte b s) = .next t) (bs : Bytes) :
    runAll (spaced (b :: bs) gs) s = runAll (spaced bs gs.tail) t := by
  rw [spaced_cons, runAll_cons_of_next _ (exec_rxByte hlive b), runAll_append_of_next h]

theorem runAll_spaced_next {b : Byte} {bs : Bytes} {gs : List (List Instr)} {s u : State}
    (h : runAll (spaced (b :: bs) gs) s = .next u) :
    s.fatal = none ∧ ∃ t, runAll (gs.headD []) (rxByte b s) = .next t ∧ runAll (spaced bs gs.tail) t = .next u := by
  rw [spaced_cons] at h
  obtain ⟨v, hv, h⟩ := runAll_cons_next h
  obtain ⟨hlive, rfl⟩ := exec_rxByte_next hv
  exact ⟨hlive, runAll_append_next h⟩

/-! ## A byte inside a frame -/

/-- The RX framer's registers are `r` but for the timer. -/
def Holds (r : RxRegs) (s : State) : Prop := s.rx = { r with tmo := s.rx.tmo }

theorem Holds.trans {r : RxRegs} {s t : State} (hs : Holds r s) (ht : Holds s.rx t) : Holds r t := by
  unfold Holds at *
  rw [ht, hs]

/-- The registers after a byte inside a frame that is not its last, but for the timer (42_rx_framer.md R156-R159). -/
def collectByte (r : RxRegs) (b : Byte) : Option RxRegs :=
  match r.state with
  | .length => some { r with len := b, state := .command }
  | .command => some { r with cmd := b, state := if r.len = 0 then .checksumLsb else .data }
  | .data => some { r with data := r.data ++ [b], state := dataState (r.data ++ [b]) r.len }
  | .checksumLsb => some { r with csumLo := b, state := .checksumMsb }
  | .firstByte | .statusValue | .checksumMsb => none

/-- The timer after such a byte (42_rx_framer.md R164). -/
def rearmed (s : State) : Timeout :=
  match s.build.rxRearm with
  | .perByte => armed s Config.tInterchar
  | .frameStartOnly => s.rx.tmo

theorem rxRearm_eq (s : State) : rxRearm s = { s with rx := { s.rx with tmo := rearmed s } } := by
  cases h : s.build.rxRearm <;> simp [rxRearm, rearmed, h]

section
variable {r r' : RxRegs} {b : Byte} {s : State}

theorem rxByte_of_quiet (h : expired s s.rx.tmo = false) : rxByte b s = rxDispatch b s := by simp [rxByte, rxExpire, h]

theorem rxDispatch_collects (h : collectByte r b = some r') (tmo : Timeout) :
    rxDispatch b { s with rx := { r with tmo := tmo } } = rxRearm { s with rx := { r' with tmo := tmo } } := by
  obtain ⟨state, _, _, _, _, _, _⟩ := r
  cases state <;> cases h <;> rfl

theorem rxByte_collects (hs : Holds r s) (hquiet : expired s s.rx.tmo = false) (h : collectByte r b = some r') :
    rxByte b s = { s with rx := { r' with tmo := rearmed s } } := by
  have hsame : { s with rx := { r with tmo := s.rx.tmo } } = s := by rw [← hs]
  have hdispatch := rxDispatch_collects (s := s) h s.rx.tmo
  rw [hsame] at hdispatch
  rw [rxByte_of_quiet hquiet, hdispatch, rxRearm_eq]
  rfl

end

/-! ## The bytes of a frame -/

/-- The registers after a START byte, but for the timer (42_rx_framer.md R153). -/
def startedRegs (start : Byte) : RxRegs :=
  { state := .length, start := start, len := 0, cmd := 0, data := [], csumLo := 0, tmo := .disarmed }

/-- The registers when the last byte of the frame is awaited, but for the timer. -/
def collectedRegs (f : Frame) : RxRegs :=
  { state := .checksumMsb, start := f.start, len := f.length, cmd := f.command, data := f.payload,
    csumLo := lowByte f.checksum, tmo := .disarmed }

/-- The bytes of the serialisation between START and the last. -/
def innerBytes (f : Frame) : Bytes := f.length :: f.command :: (f.payload ++ [lowByte f.checksum])

theorem serialise_eq (f : Frame) : serialise f = f.start :: innerBytes f ++ [highByte f.checksum] := by
  simp [serialise, innerBytes]

theorem innerBytes_length (f : Frame) : (innerBytes f).length = f.payload.length + 3 := by simp [innerBytes]

/-- Up to its last byte the serialisation is START and some of the inner bytes. -/
theorem serialise_take (f : Frame) {n : Nat} (h : n ≤ f.payload.length + 3) :
    (serialise f).take (n + 1) = f.start :: (innerBytes f).take n := by
  rw [serialise_eq, List.cons_append, List.take_succ_cons, List.take_append_of_le_length (by rwa [innerBytes_length])]

theorem collect_payload (p : Bytes) {r : RxRegs} (hst : r.state = dataState r.data r.len)
    (hlen : r.data.length + p.length = r.len.toNat) :
    p.foldlM collectByte r = some { r with data := r.data ++ p, state := .checksumLsb } := by
  induction p generalizing r with
  | nil =>
    have hst' : r.state = .checksumLsb := by rw [hst]; exact if_pos hlen
    simp [← hst']
  | cons b p ih =>
    rw [List.length_cons] at hlen
    have hst' : r.state = .data := by rw [hst]; exact if_neg (by omega)
    have hbyte : collectByte r b = some { r with data := r.data ++ [b], state := dataState (r.data ++ [b]) r.len } := by
      rw [collectByte, hst']
    rw [List.foldlM_cons, hbyte, Option.bind_eq_bind, Option.bind_some, ih rfl (by simp; omega), List.append_assoc]
    rfl

theorem collect_innerBytes {f : Frame} (hf : frameWf f = true) :
    (innerBytes f).foldlM collectByte (startedRegs f.start) = some (collectedRegs f) := by
  obtain ⟨-, hlen, -⟩ := frameWf_iff.mp hf
  have hpayload := collect_payload f.payload
    (r := { startedRegs f.start with len := f.length, cmd := f.command, state := dataState [] f.length }) rfl
    (by simp [startedRegs, hlen])
  rw [dataState_nil] at hpayload
  simp only [innerBytes, List.foldlM_cons, List.foldlM_append]
  simp only [collectByte, startedRegs, Option.bind_eq_bind, Option.bind_some] at hpayload ⊢
  rw [hpayload]
  rfl

theorem rxByte_start {f : Frame} {s : State} (hf : frameWf f = true) (hquiet : Quiet s) (hst : s.rx.state = .firstByte)
    (hok : AllocOk s) : rxByte f.start s = midFrame (startedRegs f.start) s := by
  obtain ⟨-, -, hstart, -⟩ := frameWf_iff.mp hf
  obtain ⟨stx, hstx⟩ := Option.isSome_iff_exists.mp hstart
  rw [← byte_of_stxOf hstx, rxByte_stx stx hquiet hst, rxFrameStart_ok _ hok]
  rfl

/-! ## The last byte -/

theorem received_rx (f : Frame) (s : State) : (received f s).rx = s.rx := by
  unfold received
  split_ifs <;> rfl

/-- The RX framer at FirstByte with exactly `f` in its registers, and its timer disarmed. -/
def Reproduced (f : Frame) (t : State) : Prop :=
  t.rx.state = .firstByte ∧ t.rx.tmo.armed = false ∧
    { start := t.rx.start, length := t.rx.len, command := t.rx.cmd, payload := t.rx.data,
      checksum := word16 t.rx.csumLo (f.checksum.extractLsb' 8 8) } = f

/-- The last byte of a well-formed frame routes and acknowledges it (42_rx_framer.md R160). -/
theorem exec_lastByte {f : Frame} {u : State} (hf : frameWf f = true) (hquiet : Quiet u) (hu : Holds (collectedRegs f) u) :
    ∃ t, exec (.rxByte (f.checksum.extractLsb' 8 8)) u = .next t ∧ Reproduced f t ∧ t = received f { u with rx := t.rx } := by
  obtain ⟨-, -, -, hsum⟩ := frameWf_iff.mp hf
  have hframe : rxFrame u (highByte f.checksum) = f := by rw [rxFrame, hu]; simp [collectedRegs]
  have hstate : u.rx.state = .checksumMsb := by rw [hu]; rfl
  have hdispatch : rxDispatch (highByte f.checksum) u = rxChecksumMsb (highByte f.checksum) u := by rw [rxDispatch, hstate]
  have hright : f.checksum = checksumOf u.rx.cmd u.rx.len u.rx.data := by rw [hu]; exact hsum
  have hlast : rxByte (highByte f.checksum) u = received f (frameClosed u) := by
    rw [rxByte_of_quiet hquiet.2, hdispatch, rxChecksumMsb_eq _ hquiet.1, hframe, if_pos hright]
  have hrx := received_rx f (frameClosed u)
  rw [← highByte_eq_extractLsb', exec_rxByte hquiet.1, hlast]
  refine ⟨_, rfl, ⟨?_, ?_, ?_⟩, ?_⟩
  · rw [hrx]; rfl
  · rw [hrx]; rfl
  · rw [hrx, ← highByte_eq_extractLsb']; exact hframe
  · rw [hrx]; rfl

/-! ## Other instructions between the bytes -/

/-- An instruction that carries no byte and is no RESET writes the RX framer's timer at most. -/
theorem exec_holds {i : Instr} {s t : State} (hbytes : wireBytes s.build i = none) (hreset : i ≠ .reset)
    (h : exec i s = .next t) : Holds s.rx t := by
  have he := exec_effect i s
  generalize exec i s = o at he h
  cases he with
  | refused => cases h
  | reset row => exact absurd row hreset
  | receives bs row => rw [hbytes] at row; cases row
  | transmits => rw [Holds, (txReady_leaves h).rx]
  | runs n preempt u begins =>
    have hrx : t.rx = s.rx := (runTask_rx h).trans begins.rx
    rw [Holds, hrx]
  | setsTimeout id | disarmsTimeout id => cases h; cases id <;> rfl
  | calls t leaves => cases h; rw [Holds, leaves.rx]

theorem runAll_holds {is : List Instr} {s t : State} (his : ∀ i ∈ is, wireBytes s.build i = none ∧ i ≠ .reset)
    (h : runAll is s = .next t) : Holds s.rx t ∧ t.build = s.build := by
  induction is generalizing s with
  | nil => cases h; exact ⟨rfl, rfl⟩
  | cons i is ih =>
    obtain ⟨u, hi, h⟩ := runAll_cons_next h
    obtain ⟨⟨hbytes, hreset⟩, his⟩ := List.forall_mem_cons.mp his
    have hbuild := exec_build hi
    obtain ⟨hholds, hbuild'⟩ := ih (by rwa [hbuild]) h
    exact ⟨(exec_holds hbytes hreset hi).trans hholds, hbuild'.trans hbuild⟩

theorem forall_headD_tail {gs : List (List Instr)} {P : Instr → Prop} (h : ∀ is ∈ gs, ∀ i ∈ is, P i) :
    (∀ i ∈ gs.headD [], P i) ∧ ∀ is ∈ gs.tail, ∀ i ∈ is, P i := by
  cases gs with
  | nil => simp
  | cons is gs => exact List.forall_mem_cons.mp h

/-- The bytes are collected whatever comes between them, while no timeout runs out. -/
theorem spaced_collects {bs : Bytes} {gs : List (List Instr)} {s u : State} {r r' : RxRegs}
    (hbs : bs.foldlM collectByte r = some r') (hs : Holds r s)
    (hgs : ∀ is ∈ gs, ∀ i ∈ is, wireBytes s.build i = none ∧ i ≠ .reset) (hrun : runAll (spaced bs gs) s = .next u)
    (hquiet : ∀ n v, n < bs.length → runAll (spaced (bs.take n) gs) s = .next v → expired v v.rx.tmo = false) :
    Holds r' u := by
  induction bs generalizing gs s r with
  | nil => cases hbs; cases hrun; exact hs
  | cons b bs ih =>
    rw [List.foldlM_cons, Option.bind_eq_bind, Option.bind_eq_some_iff] at hbs
    obtain ⟨r₁, hbyte, hbs⟩ := hbs
    obtain ⟨hlive, t, hgap, hrun⟩ := runAll_spaced_next hrun
    have htaken := rxByte_collects hs (hquiet 0 s (by simp) rfl) hbyte
    have hbuild : (rxByte b s).build = s.build := (rxByte_leaves b s).build
    obtain ⟨hhead, htail⟩ := forall_headD_tail hgs
    obtain ⟨hholds, hbuild'⟩ := runAll_holds (by rwa [hbuild]) hgap
    have ht : Holds r₁ t := by rw [htaken] at hholds; exact hholds
    refine ih hbs ht (by rwa [hbuild', hbuild]) hrun fun n v hn hv => hquiet (n + 1) v (by simpa using hn) ?_
    rw [List.take_succ_cons, runAll_spaced_of_next hlive hgap, hv]

/-! ## The clock moving between the bytes -/

/-- The gaps between the bytes of a frame let no inter-character timeout run out (42_rx_framer.md R164). -/
def Paced (b : Build) (gaps : List Word32) : Prop :=
  (b.rxRearm = .perByte ∧ ∀ g ∈ gaps, g.toNat < 10 * b.tickRate.perMs) ∨
    (b.rxRearm = .frameStartOnly ∧ (gaps.map BitVec.toNat).sum < 10 * b.tickRate.perMs)

/-- The inter-character timer armed `n` ticks before. -/
def aged (n : Word32) (s : State) : Timeout := { armed s Config.tInterchar with start := s.clock - n }

theorem expired_aged (n : Word32) (s : State) : expired s (aged n s) = decide (10 * s.build.tickRate.perMs ≤ n.toNat) :=
  expired_armed_later (s := { s with clock := s.clock - n }) (u := s) (n := n) 10 (by simp)

/-- The timer has not run out and does not along the gaps still to come: its age counts as one more gap before them. -/
def InTime (gaps : List Word32) (s : State) : Prop := ∃ n, s.rx.tmo = aged n s ∧ Paced s.build (n :: gaps)

theorem InTime.quiet {gaps : List Word32} {s : State} (h : InTime gaps s) : expired s s.rx.tmo = false := by
  obtain ⟨n, hn, hpace⟩ := h
  rw [hn, expired_aged]
  rcases hpace with ⟨-, hall⟩ | ⟨-, hsum⟩
  · simpa using hall n (by simp)
  · rw [List.map_cons, List.sum_cons] at hsum
    exact decide_eq_false (by omega)

theorem interchar_pos (b : Build) : 0 < 10 * b.tickRate.perMs := by cases b.tickRate <;> decide

theorem Paced.cons_zero {b : Build} {gaps : List Word32} (h : Paced b gaps) : Paced b (0 :: gaps) := by
  refine h.imp ?_ ?_
  · exact fun ⟨hbuild, hall⟩ => ⟨hbuild, List.forall_mem_cons.mpr ⟨interchar_pos b, hall⟩⟩
  · exact fun ⟨hbuild, hsum⟩ => ⟨hbuild, by simpa using hsum⟩

/-- With no gap given, the next byte follows at once. -/
theorem InTime.headD {gaps : List Word32} {s : State} (h : InTime gaps s) : InTime (gaps.headD 0 :: gaps.tail) s := by
  cases gaps with
  | cons g gaps => exact h
  | nil =>
    obtain ⟨n, hn, hpace⟩ := h
    exact ⟨n, hn, by simpa [Paced, and_comm] using hpace.cons_zero⟩

/-- A byte and the gap after it: the timer is armed anew, or grows older by the gap. -/
theorem inTime_next {gaps : List Word32} {s : State} {g : Word32} (r : RxRegs) (h : InTime (g :: gaps) s) :
    InTime gaps (advanced g { s with rx := { r with tmo := rearmed s } }) := by
  obtain ⟨n, hn, ⟨hbuild, hall⟩ | ⟨hbuild, hsum⟩⟩ := h
  · refine ⟨g, ?_, .inl ⟨hbuild, fun m hm => hall m (List.mem_cons_of_mem n hm)⟩⟩
    simp [advanced, aged, rearmed, hbuild, armed]
  · have hsize : 10 * s.build.tickRate.perMs ≤ 10000 := by cases s.build.tickRate <;> decide
    have hadd : (n + g).toNat = n.toNat + g.toNat := by
      rw [List.map_cons, List.map_cons, List.sum_cons, List.sum_cons] at hsum
      bv_omega
    have hkept : rearmed s = aged n s := by simp [rearmed, hbuild, hn]
    have hstart : s.clock - n = s.clock + g - (n + g) := by ring
    refine ⟨n + g, ?_, .inr ⟨hbuild, by simpa [hadd, Nat.add_assoc, advanced] using hsum⟩⟩
    rw [hkept, aged, hstart]
    rfl

/-- The START byte arms the timer under both parameters, so arming it anew at the same clock changes nothing. -/
theorem midFrame_rearmed (r : RxRegs) (s : State) :
    { midFrame r s with rx := { r with tmo := rearmed (midFrame r s) } } = midFrame r s := by
  have hsame : rearmed (midFrame r s) = armed s Config.tInterchar := by
    unfold rearmed
    split <;> rfl
  rw [hsame]
  rfl

theorem inTime_started {gaps : List Word32} {s : State} (r : RxRegs) (h : Paced s.build gaps) :
    InTime gaps.tail (advanced (gaps.headD 0) (midFrame r s)) := by
  have htime : InTime gaps (midFrame r s) := ⟨0, by simp [aged, midFrame, armed, afterDraw], h.cons_zero⟩
  have hnext := inTime_next r htime.headD
  rwa [midFrame_rearmed] at hnext

theorem foldl_add_headD (gaps : List Word32) (c : Word32) : gaps.foldl (· + ·) c = gaps.tail.foldl (· + ·) (c + gaps.headD 0) := by
  cases gaps <;> simp

theorem runAll_ticking {s : State} (hlive : s.fatal = none) (gaps : List Word32) :
    runAll ((gaps.map ticking).headD []) s = .next (advanced (gaps.headD 0) s) := by
  have hnone : runAll [] s = .next (advanced 0 s) := by simp [advanced, runAll]
  cases gaps with
  | nil => exact hnone
  | cons g gaps =>
    by_cases hg : g = 0
    · subst hg; exact hnone
    · have hone : ticking g = [.clockAdvance g] := if_neg hg
      rw [List.map_cons, List.headD_cons, hone, runAll_cons_of_next _ (exec_clockAdvance hlive hg)]
      rfl

/-- The run of the bytes inside a frame with the clock alone moving between them. -/
theorem runAll_spaced_ticking {bs : Bytes} {gaps : List Word32} {s : State} {r r' : RxRegs}
    (hbs : bs.foldlM collectByte r = some r') (hs : Holds r s) (hlive : s.fatal = none) (hlen : gaps.length ≤ bs.length)
    (htime : InTime gaps s) :
    ∃ u, runAll (spaced bs (gaps.map ticking)) s = .next u ∧ Holds r' u ∧ InTime [] u ∧
      u = { s with rx := u.rx, clock := gaps.foldl (· + ·) s.clock } := by
  induction bs generalizing gaps s r with
  | nil =>
    cases hbs
    rw [List.eq_nil_of_length_eq_zero (Nat.le_zero.mp hlen)] at htime ⊢
    exact ⟨s, rfl, hs, htime, rfl⟩
  | cons b bs ih =>
    rw [List.foldlM_cons, Option.bind_eq_bind, Option.bind_eq_some_iff] at hbs
    obtain ⟨r₁, hbyte, hbs⟩ := hbs
    have htaken := rxByte_collects hs htime.quiet hbyte
    have hgap := runAll_ticking (s := rxByte b s) (by rw [htaken]; exact hlive) gaps
    have hlen' : gaps.tail.length ≤ bs.length := by simpa using hlen
    obtain ⟨u, hrun, hu, htime', hframe⟩ := ih hbs (s := advanced (gaps.headD 0) { s with rx := { r₁ with tmo := rearmed s } })
      rfl hlive hlen' (inTime_next r₁ htime.headD)
    refine ⟨u, ?_, hu, htime', ?_⟩
    · rw [runAll_spaced_of_next hlive hgap, htaken, ← List.map_tail, hrun]
    · rw [foldl_add_headD]
      exact hframe

/-! ## Both parts of the round trip -/

section
variable {f : Frame} {s : State} (hf : frameWf f = true) (hquiet : Quiet s) (hst : s.rx.state = .firstByte) (hok : AllocOk s)
include hf hquiet hst hok

theorem roundTrip_ticking {gaps : List Word32} (hlen : gaps.length < (serialise f).length) (hpace : Paced s.build gaps) :
    ∃ t, runAll (spaced (serialise f) (gaps.map ticking)) s = .next t ∧ Reproduced f t ∧
      t = received f { afterDraw s with rx := t.rx, clock := gaps.foldl (· + ·) s.clock } := by
  have hinner : gaps.length ≤ (f.start :: innerBytes f).length := by
    rw [serialise_eq, List.length_append] at hlen; exact Nat.le_of_lt_succ hlen
  have hstart := rxByte_start hf hquiet hst hok
  have hgap := runAll_ticking (s := rxByte f.start s) (by rw [hstart]; exact hquiet.1) gaps
  obtain ⟨u, hrun, hu, htime, hframe⟩ := runAll_spaced_ticking (collect_innerBytes hf)
    (s := advanced (gaps.headD 0) (midFrame (startedRegs f.start) s)) rfl hquiet.1 (by simpa using hinner)
    (inTime_started _ hpace)
  have hlive : u.fatal = none := by rw [hframe]; exact hquiet.1
  obtain ⟨t, hlast, hrep, ht⟩ := exec_lastByte hf ⟨hlive, htime.quiet⟩ hu
  refine ⟨t, ?_, hrep, ?_⟩
  · rw [serialise_eq, spaced_concat _ (by simpa using hinner), highByte_eq_extractLsb']
    refine (runAll_append_of_next ?_ _).trans (runAll_cons_of_next [] hlast)
    rw [runAll_spaced_of_next hquiet.1 hgap, hstart, ← List.map_tail, hrun]
  · rw [foldl_add_headD]
    exact ht.trans (by rw [hframe]; rfl)

theorem roundTrip_between {between : List (List Instr)} {u : State}
    (hbetween : ∀ is ∈ between, ∀ i ∈ is, wireBytes s.build i = none ∧ i ≠ .reset)
    (hrun : runAll (spaced ((serialise f).take (f.payload.length + 4)) between) s = .next u) (hlive : u.fatal = none)
    (htimer : ∀ n v, 0 < n → n ≤ f.payload.length + 4 →
      runAll (spaced ((serialise f).take n) between) s = .next v → expired v v.rx.tmo = false) :
    ∃ t, exec (.rxByte (f.checksum.extractLsb' 8 8)) u = .next t ∧ Reproduced f t ∧ t = received f { u with rx := t.rx } := by
  have hquiet' := htimer _ u (Nat.succ_pos _) le_rfl hrun
  rw [serialise_take f le_rfl, ← innerBytes_length, List.take_length] at hrun
  obtain ⟨-, v, hgap, hrun⟩ := runAll_spaced_next hrun
  obtain ⟨hhead, htail⟩ := forall_headD_tail hbetween
  have hstart := rxByte_start hf hquiet hst hok
  rw [hstart] at hgap
  obtain ⟨hholds, hbuild⟩ := runAll_holds (s := midFrame _ s) hhead hgap
  refine exec_lastByte hf ⟨hlive, hquiet'⟩ (spaced_collects (collect_innerBytes hf) hholds (by rwa [hbuild]) hrun ?_)
  intro n w hn hw
  rw [innerBytes_length] at hn
  refine htimer (n + 1) w (Nat.succ_pos n) (by omega) ?_
  rw [serialise_take f (by omega), runAll_spaced_of_next hquiet.1 (by rw [hstart]; exact hgap), hw]

end

/-- Settles O23: the bytes before the last are collected in the registers, whatever comes between them, and the last one completes
the frame. -/
theorem roundTripReproducesFrame : Obligations.RoundTripReproducesFrame := by
  intro f s hf hquiet hst hok reproduced
  exact ⟨fun gaps => roundTrip_ticking hf hquiet hst hok, fun between u => roundTrip_between hf hquiet hst hok⟩

end Sys2Proof.Machine
end

section
/-! PROOFS. A frame on the wire (43_tx_framer.md R182-R188), O27: one TX_READY and its shift for each byte of the serialisation, then the
TX_READY that finishes the frame. -/
namespace Sys2Proof.Machine

/-! ## One byte -/

/-- TX_READY is enabled and goes on with the frame (43_tx_framer.md R180, R181). -/
structure Sending (s : State) : Prop where
  live : s.fatal = none
  enabled : s.sig.txIe = true
  active : s.sig.txActive = true
  noReply : s.sig.pendingReply = none

/-- TX_READY past its tests, by the transmit state (43_tx_framer.md R182-R188). -/
def sendNext (s : State) : Out :=
  match s.tx.state with
  | .sendStx => .next (txSendStx s)
  | .sendLength => withTxFrame s fun f => .next (txSendLength f s)
  | .sendCommand => withTxFrame s fun f => .next (txSendCommand f s)
  | .sendData => withTxFrame s fun f => txSendData f s
  | .sendChecksumLsb => withTxFrame s fun f => .next (txSendChecksumLsb f s)
  | .sendChecksumMsb => withTxFrame s fun f => .next (txSendChecksumMsb f s)
  | .txDone => .next (txFinish s)

theorem exec_txReady {s : State} (hs : Sending s) (hthr : s.uart.thrEmpty = true) : exec .txReady s = sendNext s := by
  have hexec : exec .txReady s = txReady s :=
    (ifLive_of_live hs.live _).trans (if_pos (by simp [txReadyEnabled, hs.enabled, hthr]))
  rw [hexec, txReady, hs.active, hs.noReply]
  rfl

/-- The byte leaves the UART, which can take the next (43_tx_framer.md R191). -/
theorem exec_uartShift {s : State} (hlive : s.fatal = none) (hfull : s.uart.thrEmpty = false) :
    exec .uartShift s = .next { s with uart.thrEmpty := true } :=
  (ifLive_of_live hlive _).trans (if_neg (by simp [hfull]))

/-- `f` in progress at index `idx` in state `st`, with the bytes `out` of it on the wire. -/
def transmitting (f : Frame) (st : TxState) (idx : Nat) (out : Bytes) (s : State) : State :=
  { s with tx := { state := st, frame := some f, idx := idx }, uart := { thrEmpty := true, wireOut := s.uart.wireOut ++ out } }

theorem Sending.transmitting {s : State} (h : Sending s) (f : Frame) (st : TxState) (idx : Nat) (out : Bytes) :
    Sending (transmitting f st idx out s) := ⟨h.live, h.enabled, h.active, h.noReply⟩

/-- A byte sent and shifted out. -/
theorem runAll_txrShift_succ {s t : State} {b : Byte} (k : Nat) (is : List Instr) (hs : Sending s)
    (hthr : s.uart.thrEmpty = true) (h : sendNext s = .next (wireTx b t)) (hlive : t.fatal = none) :
    runAll (txrShift (k + 1) ++ is) s =
      runAll (txrShift k ++ is) { t with uart := { thrEmpty := true, wireOut := t.uart.wireOut ++ [b] } } := by
  rw [txrShift, List.cons_append, runAll_cons_of_next _ ((exec_txReady hs hthr).trans h), List.cons_append,
    runAll_cons_of_next _ (exec_uartShift (s := wireTx b t) hlive rfl)]
  rfl

section
variable {f : Frame} {s : State} {out : Bytes} {idx : Nat} {k : Nat} {is : List Instr} (hs : Sending s)
include hs

theorem runAll_transmitting_succ {st st' : TxState} {idx' : Nat} {b : Byte} {t : State}
    (h : sendNext (transmitting f st idx out s) = .next (wireTx b (transmitting f st' idx' out t))) (hlive : t.fatal = none) :
    runAll (txrShift (k + 1) ++ is) (transmitting f st idx out s) =
      runAll (txrShift k ++ is) (transmitting f st' idx' (out ++ [b]) t) := by
  rw [runAll_txrShift_succ k is (hs.transmitting f st idx out) rfl h hlive, transmitting, transmitting, List.append_assoc]

/-! ## The bytes in turn -/

theorem runAll_start {rest : List Frame} (hthr : s.uart.thrEmpty = true) (hst : s.tx.state = .sendStx) (hnone : s.tx.frame = none)
    (hq : s.q.tx = f :: rest) : runAll (txrShift (k + 1) ++ is) s =
      runAll (txrShift k ++ is) (transmitting f .sendLength 0 [f.start] { s with q.tx := rest }) := by
  have hsend : sendNext s =
      .next (wireTx f.start { s with q.tx := rest, tx := { state := .sendLength, frame := some f, idx := 0 } }) := by
    rw [sendNext, hst]
    simp only [txSendStx, hnone, hq, dequeue_cons]
    rfl
  rw [runAll_txrShift_succ k is hs hthr hsend hs.live]
  rfl

theorem runAll_length : runAll (txrShift (k + 1) ++ is) (transmitting f .sendLength idx out s) =
    runAll (txrShift k ++ is) (transmitting f .sendCommand idx (out ++ [f.length]) (setTxreq .high s)) :=
  runAll_transmitting_succ hs rfl hs.live

/-- The state for the payload byte at an index, or past the last one (43_tx_framer.md R184, R185). -/
def sendState (f : Frame) (idx : Nat) : TxState := if idx = f.length.toNat then .sendChecksumLsb else .sendData

omit hs in
theorem sendState_zero (f : Frame) : sendState f 0 = if f.length = 0 then .sendChecksumLsb else .sendData := by
  have hzero : 0 = f.length.toNat ↔ f.length = 0 := by bv_omega
  simp only [sendState, hzero]

theorem runAll_command : runAll (txrShift (k + 1) ++ is) (transmitting f .sendCommand 0 out s) =
    runAll (txrShift k ++ is) (transmitting f (sendState f 0) 0 (out ++ [f.command]) s) := by
  rw [sendState_zero]
  exact runAll_transmitting_succ hs rfl hs.live

theorem runAll_data {b : Byte} (hidx : f.payload[idx]? = some b) (hmore : idx ≠ f.length.toNat) :
    runAll (txrShift (k + 1) ++ is) (transmitting f (sendState f idx) idx out s) =
      runAll (txrShift k ++ is) (transmitting f (sendState f (idx + 1)) (idx + 1) (out ++ [b]) s) := by
  have hstate : sendState f idx = .sendData := if_neg hmore
  rw [hstate]
  refine runAll_transmitting_succ hs ?_ hs.live
  change txSendData f (transmitting f .sendData idx out s) = _
  simp only [txSendData, transmitting, hidx]
  rfl

/-- The payload's bytes from any index on are sent in order. -/
theorem runAll_payload_from (hlen : f.length.toNat = f.payload.length) (p : Bytes) {pre : Bytes} (hp : f.payload = pre ++ p) :
    runAll (txrShift (p.length + k) ++ is) (transmitting f (sendState f pre.length) pre.length out s) =
      runAll (txrShift k ++ is) (transmitting f .sendChecksumLsb f.payload.length (out ++ p) s) := by
  induction p generalizing pre out with
  | nil =>
    have hend : pre.length = f.payload.length := by rw [hp, List.append_nil]
    have hstate : sendState f pre.length = .sendChecksumLsb := if_pos (hend.trans hlen.symm)
    rw [hstate, hend, List.length_nil, Nat.zero_add, List.append_nil]
  | cons b p ih =>
    have hidx : f.payload[pre.length]? = some b := by simp [hp]
    have hmore : pre.length ≠ f.length.toNat := by rw [hlen, hp]; simp
    have hnext := ih (out := out ++ [b]) (pre := pre ++ [b]) (by simpa using hp)
    rw [List.length_append, List.append_assoc] at hnext
    rw [List.length_cons, Nat.add_right_comm, runAll_data hs hidx hmore]
    exact hnext

theorem runAll_payload (hlen : f.length.toNat = f.payload.length) :
    runAll (txrShift (f.payload.length + k) ++ is) (transmitting f (sendState f 0) 0 out s) =
      runAll (txrShift k ++ is) (transmitting f .sendChecksumLsb f.payload.length (out ++ f.payload) s) :=
  runAll_payload_from hs hlen f.payload (pre := []) rfl

theorem runAll_checksum : runAll (txrShift (k + 2) ++ is) (transmitting f .sendChecksumLsb idx out s) =
    runAll (txrShift k ++ is) (transmitting f .txDone idx (out ++ [lowByte f.checksum, highByte f.checksum]) s) := by
  have hlsb : sendNext (transmitting f .sendChecksumLsb idx out s) =
      .next (wireTx (lowByte f.checksum) (transmitting f .sendChecksumMsb idx out s)) := rfl
  rw [runAll_transmitting_succ hs hlsb hs.live, runAll_transmitting_succ hs (b := highByte f.checksum) rfl hs.live,
    List.append_assoc]
  rfl

theorem runAll_finish : runAll [.txReady] (transmitting f .txDone idx out s) = .next (txFinish (transmitting f .txDone idx out s)) :=
  runAll_cons_of_next [] (exec_txReady (hs.transmitting f .txDone idx out) rfl)

end

/-- Settles O27, byte after byte. -/
theorem txSendsSerialisation : Obligations.TxSendsSerialisation := by
  intro f rest s hf hlive hie hthr hactive hreply hst hnone hq
  obtain ⟨-, hlen, -⟩ := frameWf_iff.mp hf
  have hs : Sending s := ⟨hlive, hie, hactive, hreply⟩
  have htaken : Sending { s with q.tx := rest } := ⟨hlive, hie, hactive, hreply⟩
  have hreleased : Sending (setTxreq .high { s with q.tx := rest }) := ⟨hlive, hie, hactive, hreply⟩
  rw [runAll_start hs hthr hst hnone hq, runAll_length htaken, runAll_command hreleased, hlen,
    runAll_payload hreleased hlen, runAll_checksum hreleased]
  refine (runAll_finish hreleased).trans ?_
  simp [txFinish, transmitting, setTxreq, serialise, hthr]

end Sys2Proof.Machine
end

section
/-! PROOFS. One byte into the RX framer (42_rx_framer.md R150-R163), O14 to O20: a first byte by its class, as RX_BYTE and as a row, the
status byte after its marker, the bytes of a frame by what `collectByte` says of the registers, and the byte that completes it. -/
namespace Sys2Proof.Machine

section
variable {b : Byte} {r : Reply} {i : Instr} {s : State}

/-! ## Which byte it is (R150) -/

theorem rxByte_of_expired (h : expired s s.rx.tmo = true) : rxByte b s = rxDispatch b (frameClosed s) := by
  rw [rxByte, rxExpire, if_pos h, frameClosed]

theorem frameClosed_not_expired (s : State) : expired (frameClosed s) (frameClosed s).rx.tmo = false :=
  expired_of_unarmed _ rfl

theorem rxByte_firstByte (hquiet : Quiet s) (hst : s.rx.state = .firstByte) : rxByte b s = rxFirstByte b s := by
  rw [rxByte_of_quiet hquiet.2, rxDispatch, hst]

/-- A first byte, by itself or as the row that stands for it (30_encoding.md R108; log entry 14). -/
theorem exec_firstByte (hwf : i.wf s.build = true) (hrow : wireBytes s.build i = some [b]) (hquiet : Quiet s)
    (hst : s.rx.state = .firstByte) : exec i s = .next (rxFirstByte b s) := by
  rw [exec_wireRow hwf hquiet.1 hrow, deliver_singleton b hquiet.1, rxByte_firstByte hquiet hst]

theorem rxFirstByte_reply (h : classifyFirst b = .reply r) : rxFirstByte b s = rxReply r s := by rw [rxFirstByte, h]

theorem rxFirstByte_status (h : classifyFirst b = .status) : rxFirstByte b s = rxStatusMark s := by rw [rxFirstByte, h]

theorem rxFirstByte_start {stx : Stx} (h : classifyFirst b = .start stx) : rxFirstByte b s = rxFrameStart b s := by
  rw [rxFirstByte, h]

theorem rxFirstByte_desync (h : classifyFirst b = .desync) : rxFirstByte b s = rxDesync s := by rw [rxFirstByte, h]

/-! ## ACK and NAK (R151) -/

theorem rxReply_queued (hlive : s.fatal = none) (hwait : s.sig.ackWait = true) (hroom : s.q.ack.length < Config.capAck) :
    rxReply r s = { s with q.ack := s.q.ack ++ [r], sig.ackWait := false } := by
  rw [rxReply, if_pos hwait, enqueueAck, enqueue_of_room r hroom]
  simp only [hlive]

theorem rxReply_full (hwait : s.sig.ackWait = true) (hfull : Config.capAck ≤ s.q.ack.length) :
    rxReply r s = raise .ackQueueFull s := by
  rw [rxReply, if_pos hwait, enqueueAck, enqueue_of_full r hfull]
  rfl

theorem rxReply_unawaited (hwait : s.sig.ackWait = false) :
    rxReply r s = if s.sig.statusWait then { s with sig.statusWait := false } else s := by
  rw [rxReply, if_neg (by simp [hwait])]

/-! ## The status marker and the status byte (R152, R155) -/

theorem rxStatusMark_awaited (hwait : s.sig.statusWait = true) : rxStatusMark s = { s with rx.state := .statusValue } :=
  if_pos hwait

theorem rxStatusMark_unawaited (hwait : s.sig.statusWait = false) : rxStatusMark s = { s with sig.ackWait := false } :=
  if_neg (by simp [hwait])

theorem rxByte_statusValue (hquiet : Quiet s) (hst : s.rx.state = .statusValue) : rxByte b s = rxStatusValue b s := by
  rw [rxByte_of_quiet hquiet.2, rxDispatch, hst]

theorem rxStatusValue_queued (hlive : s.fatal = none) (hroom : s.q.status.length < Config.capStatus) :
    rxStatusValue b s = { s with q.status := s.q.status ++ [b], sig.statusWait := false, rx.state := .firstByte } := by
  rw [rxStatusValue, enqueueStatus, enqueue_of_room b hroom]
  simp only [hlive]

theorem rxStatusValue_full (hfull : Config.capStatus ≤ s.q.status.length) :
    rxStatusValue b s = raise .statusQueueFull s := by
  rw [rxStatusValue, enqueueStatus, enqueue_of_full b hfull]
  rfl

/-- A status sequence at FirstByte: the marker, then its byte in the state the marker leaves. -/
theorem exec_statusSequence (hquiet : Quiet s) (hst : s.rx.state = .firstByte) :
    exec (.statusSequence b) s = .next (deliver [b] (rxStatusMark s)) := by
  have hmark : rxByte 0x3F s = rxStatusMark s := (rxByte_firstByte hquiet hst).trans (rxFirstByte_status rfl)
  rw [exec_wireRow rfl hquiet.1 rfl, deliver_cons hquiet.1, hmark]

theorem exec_statusSequence_awaited (hquiet : Quiet s) (hst : s.rx.state = .firstByte) (hwait : s.sig.statusWait = true) :
    exec (.statusSequence b) s = .next (rxStatusValue b { s with rx.state := .statusValue }) := by
  have hmarked : Quiet { s with rx.state := .statusValue } := hquiet
  rw [exec_statusSequence hquiet hst, rxStatusMark_awaited hwait, deliver_singleton b hmarked.1, rxByte_statusValue hmarked rfl]

/-! ## A start byte, and any other (R153, R154) -/

theorem classifyFirst_desync (hreq : b ≠ 0x02) (hind : b ≠ 0x03) (hack : b ≠ 0x06) (hnak : b ≠ 0x15) (hstatus : b ≠ 0x3F) :
    classifyFirst b = .desync :=
  (if_neg hack).trans <| (if_neg hnak).trans <| (if_neg hstatus).trans <| (if_neg hreq).trans (if_neg hind)

/-! ## Inside a frame (R156-R159) -/

theorem rearmed_eq (s : State) : rearmed s =
    if s.build.rxRearm = .perByte then
      { armed := true, start := s.clock, duration := BitVec.ofNat 32 (10 * s.build.tickRate.perMs) }
    else s.rx.tmo := by
  unfold rearmed
  cases s.build.rxRearm <;> rfl

theorem exec_rxByte_collects (b : Byte) {regs : RxRegs} (hquiet : Quiet s) (h : collectByte s.rx b = some regs) :
    exec (.rxByte b) s = .next { s with rx := { regs with tmo := rearmed s } } := by
  rw [exec_rxByte hquiet.1, rxByte_collects rfl hquiet.2 h]

/-! ## The last byte (R160-R163) -/

theorem rxByte_checksumMsb (hquiet : Quiet s) (hst : s.rx.state = .checksumMsb) : rxByte b s = rxChecksumMsb b s := by
  rw [rxByte_of_quiet hquiet.2, rxDispatch, hst]

end

/-! ## The statements -/

/-- Settles O14: the abandoned frame's timer is disarmed, so step 1 does nothing the second time. -/
theorem expiredTimeoutAbandonsFrame : Obligations.ExpiredTimeoutAbandonsFrame := by
  intro b s hlive hexp
  have hsame : rxByte b s = rxByte b (frameClosed s) := by
    rw [rxByte_of_expired hexp, rxByte_of_quiet (frameClosed_not_expired s)]
  rw [exec_rxByte hlive, hsame]
  exact (exec_rxByte (s := frameClosed s) hlive b).symm

/-- Settles O15, by the waits that are on and the room in q_ack. -/
theorem ackNakDelivered : Obligations.AckNakDelivered := by
  intro r i s hi hquiet hst
  obtain ⟨b, hwf, hrow, hclass⟩ :
      ∃ b, i.wf s.build = true ∧ wireBytes s.build i = some [b] ∧ classifyFirst b = .reply r := by
    simp only [List.mem_cons, Prod.mk.injEq, List.not_mem_nil, or_false] at hi
    rcases hi with ⟨rfl, rfl⟩ | ⟨rfl, rfl⟩ | ⟨rfl, rfl⟩ | ⟨rfl, rfl⟩ <;> exact ⟨_, rfl, rfl, rfl⟩
  rw [exec_firstByte hwf hrow hquiet hst, rxFirstByte_reply hclass]
  refine ⟨fun hwait hroom => ?_, fun hwait hfull => ?_, fun hack hstatus => ?_, fun hack hstatus => ?_⟩
  · rw [rxReply_queued hquiet.1 hwait hroom]
  · rw [rxReply_full hwait hfull, raise]
  · rw [rxReply_unawaited hack, if_pos hstatus]
  · rw [rxReply_unawaited hack, if_neg (by simp [hstatus])]

/-- Settles O16, the sequence by the two bytes' own clauses. -/
theorem statusMarkerAndByte : Obligations.StatusMarkerAndByte := by
  refine ⟨fun i s hi hquiet hst => ?marker, fun b s hquiet hst => ?byte, fun v s hquiet hst => ?sequence⟩
  case marker =>
    obtain ⟨hwf, hrow⟩ : i.wf s.build = true ∧ wireBytes s.build i = some [0x3F] := by
      simp only [List.mem_cons, List.not_mem_nil, or_false] at hi
      rcases hi with rfl | rfl <;> exact ⟨rfl, rfl⟩
    rw [exec_firstByte hwf hrow hquiet hst, rxFirstByte_status rfl]
    exact ⟨fun hwait => by rw [rxStatusMark_awaited hwait], fun hwait => by rw [rxStatusMark_unawaited hwait]⟩
  case byte =>
    rw [exec_rxByte hquiet.1, rxByte_statusValue hquiet hst]
    exact ⟨fun hroom => by rw [rxStatusValue_queued hquiet.1 hroom], fun hfull => by rw [rxStatusValue_full hfull, raise]⟩
  case sequence =>
    refine ⟨fun hwait hroom => ?_, fun hwait hfull => ?_, fun hwait => ?_⟩
    · rw [exec_statusSequence_awaited hquiet hst hwait,
        rxStatusValue_queued (s := { s with rx.state := .statusValue }) hquiet.1 hroom, ← hst]
    · rw [exec_statusSequence_awaited hquiet hst hwait,
        rxStatusValue_full (s := { s with rx.state := .statusValue }) hfull, raise]
    · have hcleared : Quiet { s with sig.ackWait := false } := hquiet
      rw [exec_statusSequence hquiet hst, rxStatusMark_unawaited hwait, deliver_singleton v hcleared.1, exec_rxByte hcleared.1]

/-- Settles O17, by the allocator's answer. -/
theorem startByteBeginsFrame : Obligations.StartByteBeginsFrame := by
  intro b i s hi hquiet hst
  obtain ⟨stx, hwf, hrow, hclass⟩ :
      ∃ stx, i.wf s.build = true ∧ wireBytes s.build i = some [b] ∧ classifyFirst b = .start stx := by
    simp only [List.mem_cons, Prod.mk.injEq, List.not_mem_nil, or_false] at hi
    rcases hi with ⟨rfl, rfl⟩ | ⟨rfl, rfl⟩ | ⟨rfl, rfl⟩ | ⟨rfl, rfl⟩ <;> exact ⟨_, rfl, rfl, rfl⟩
  rw [exec_firstByte hwf hrow hquiet hst, rxFirstByte_start hclass]
  refine ⟨fun hok => ?_, fun hnok => ?_⟩
  · rw [rxFrameStart_ok b hok]; rfl
  · rw [rxFrameStart_exhausted b hnok]

/-- Settles O18: such a byte is of no other class. -/
theorem desyncByteEndsWaits : Obligations.DesyncByteEndsWaits := by
  intro b i s hi hreq hind hack hnak hstatus hquiet hst
  have hclass := classifyFirst_desync hreq hind hack hnak hstatus
  obtain ⟨hwf, hrow⟩ : i.wf s.build = true ∧ wireBytes s.build i = some [b] := by
    simp only [List.mem_cons, List.not_mem_nil, or_false] at hi
    rcases hi with rfl | rfl
    · exact ⟨rfl, rfl⟩
    · exact ⟨decide_eq_true hclass, rfl⟩
  rw [exec_firstByte hwf hrow hquiet hst, rxFirstByte_desync hclass, rxDesync]

/-- Settles O19: each clause is what `collectByte` makes of the registers. -/
theorem frameFieldsAreCollected : Obligations.FrameFieldsAreCollected := by
  intro b s hquiet tmo
  have htmo : tmo = rearmed s := (rearmed_eq s).symm
  rw [htmo]
  refine ⟨fun hst => ?length, fun hst hlen => ?noPayload, fun hst hlen => ?payload, fun hst hlast => ?lastData,
    fun hst hmore => ?moreData, fun hst => ?checksumLsb⟩
  case length | checksumLsb => exact exec_rxByte_collects b hquiet (by rw [collectByte, hst])
  case noPayload => exact exec_rxByte_collects b hquiet (by rw [collectByte, hst, if_pos hlen])
  case payload => exact exec_rxByte_collects b hquiet (by rw [collectByte, hst, if_neg hlen])
  case lastData =>
    have hstate : dataState (s.rx.data ++ [b]) s.rx.len = .checksumLsb := if_pos (by simpa using hlast)
    exact exec_rxByte_collects b hquiet (by rw [collectByte, hst, hstate])
  case moreData =>
    have hstate : dataState (s.rx.data ++ [b]) s.rx.len = s.rx.state := by
      rw [hst]; exact if_neg (by simpa using hmore)
    exact exec_rxByte_collects b hquiet (by rw [collectByte, hst, hstate])

/-- Settles O20: the registers hold the frame, and ROUTE, ARM_REPLY and CSUM_FAIL are `rxChecksumMsb_eq`. -/
theorem checksumMsbCompletesFrame : Obligations.ChecksumMsbCompletesFrame := by
  intro b s hquiet hst sum t
  have hframe : rxFrame s b =
      { start := s.rx.start, length := s.rx.len, command := s.rx.cmd, payload := s.rx.data, checksum := sum } := by
    rw [rxFrame, word16_eq_ofNat]
  rw [exec_rxByte hquiet.1, rxByte_checksumMsb hquiet hst, rxChecksumMsb_eq b hquiet.1, hframe]
  refine ⟨fun hright => ?_, fun hwrong => ?_⟩
  · rw [if_pos hright]; rfl
  · rw [if_neg hwrong]; rfl

end Sys2Proof.Machine
end

section
/-! PROOFS. The TX framer event by event (43_tx_framer.md R180-R191), O12, O25 and O26: CLOCK_ADVANCE and UART_SHIFT, enabled or refused;
TX_READY by its tests and its transmit state; and what no TX_READY touches. -/
namespace Sys2Proof.Machine

/-! ## CLOCK_ADVANCE and UART_SHIFT -/

section
variable {s : State}

theorem exec_clockAdvance_zero (hlive : s.fatal = none) : exec (.clockAdvance 0) s = .refused .zeroAdvance :=
  (ifLive_of_live hlive _).trans (if_pos rfl)

theorem exec_uartShift_empty (hlive : s.fatal = none) (hempty : s.uart.thrEmpty = true) :
    exec .uartShift s = .refused .notEnabled :=
  (ifLive_of_live hlive _).trans (if_pos hempty)

/-! ## TX_READY by its tests -/

theorem exec_txReady_enabled (hlive : s.fatal = none) (hie : s.sig.txIe = true) (hthr : s.uart.thrEmpty = true) :
    exec .txReady s = txReady s :=
  (ifLive_of_live hlive _).trans (if_pos (by simp [txReadyEnabled, hie, hthr]))

theorem exec_txReady_next {t : State} (h : exec .txReady s = .next t) : txReady s = .next t := by
  obtain ⟨-, h⟩ := ifLive_next h
  split at h
  · exact h
  · cases h

theorem txReady_inactive (hidle : s.sig.txActive = false) : txReady s = .next s := by
  rw [txReady, hidle]
  rfl

theorem txReady_reply {r : Reply} (hactive : s.sig.txActive = true) (hreply : s.sig.pendingReply = some r) :
    txReady s = .next (txReply r s) := by
  rw [txReady, hactive, hreply]
  rfl

/-! ## The frame to send, and the next payload byte (R182, R185) -/

theorem txSendStx_held {f : Frame} (hf : s.tx.frame = some f) : txSendStx s = txStart f s := by
  rw [txSendStx, hf]

theorem txSendStx_idle (hnone : s.tx.frame = none) (hq : s.q.tx = []) :
    txSendStx s = { s with sig.txIe := false, sig.txActive := false } := by
  rw [txSendStx, hnone, hq]
  rfl

theorem txSendStx_queued {f : Frame} {rest : List Frame} (hnone : s.tx.frame = none) (hq : s.q.tx = f :: rest) :
    txSendStx s = txStart f { s with q.tx := rest } := by
  rw [txSendStx, hnone, hq]
  rfl

theorem txSendData_of_some {f : Frame} {b : Byte} (hb : f.payload[s.tx.idx]? = some b) :
    txSendData f s = .next { sent b s with
      tx.idx := s.tx.idx + 1, tx.state := if s.tx.idx + 1 = f.length.toNat then .sendChecksumLsb else .sendData } := by
  rw [txSendData, hb]
  rfl

/-! ## What TX_READY touches -/

/-- At most one byte to the UART, at most the first frame off q_tx, and nothing but the transmit side changed; by default a byte is sent
and q_tx is left alone. -/
structure TxTouches (s t : State) : Prop where
  uart : t.uart = s.uart ∨ ∃ b, t.uart = { thrEmpty := false, wireOut := s.uart.wireOut ++ [b] } := by exact .inr ⟨_, rfl⟩
  queue : t.q.tx = s.q.tx ∨ t.q.tx = s.q.tx.tail := by exact .inl rfl
  others : t = { s with
    tx := t.tx, uart := t.uart, q.tx := t.q.tx, line.txreq := t.line.txreq,
    sig := { s.sig with txActive := t.sig.txActive, txIe := t.sig.txIe, txDone := t.sig.txDone,
                        pendingReply := t.sig.pendingReply } } := by rfl

theorem txSendStx_touches (s : State) : TxTouches s (txSendStx s) := by
  cases hf : s.tx.frame with
  | some f => rw [txSendStx_held hf]; exact {}
  | none =>
    cases hq : s.q.tx with
    | nil => rw [txSendStx_idle hf hq]; exact { uart := .inl rfl }
    | cons f rest =>
      have htail : rest = s.q.tx.tail := by rw [hq, List.tail_cons]
      rw [txSendStx_queued hf hq]
      exact { queue := .inr htail }

theorem txSendData_touches {f : Frame} {t : State} (h : txSendData f s = .next t) : TxTouches s t := by
  unfold txSendData at h
  split at h <;> cases h
  exact {}

theorem txReady_touches {t : State} (h : txReady s = .next t) : TxTouches s t := by
  unfold txReady at h
  split at h
  case isTrue => cases h; exact { uart := .inl rfl }
  split at h
  case h_1 => cases h; exact {}
  split at h
  case h_1 => cases h; exact txSendStx_touches s
  case h_4 => obtain ⟨f, _, h⟩ := withTxFrame_next h; exact txSendData_touches h
  case h_7 => cases h; exact { uart := .inl rfl }
  all_goals obtain ⟨f, _, h⟩ := withTxFrame_next h; cases h; exact {}

end

/-! ## The statements -/

/-- Settles O26, case by case in `txReady_touches`. -/
theorem txReadyTouchesOnlyTransmit : Obligations.TxReadyTouchesOnlyTransmit := by
  intro s t h
  obtain ⟨huart, hqueue, hothers⟩ := txReady_touches (exec_txReady_next h)
  exact ⟨huart, hqueue, hothers⟩

/-- Settles O12: each event's equation where it is enabled and where it is not. -/
theorem clockAdvanceAndUartShift : Obligations.ClockAdvanceAndUartShift := by
  intro s hlive
  refine ⟨fun n hn => ?_, exec_clockAdvance_zero hlive, exec_uartShift hlive, exec_uartShift_empty hlive⟩
  rw [exec_clockAdvance hlive hn, advanced, BitVec.add_def]

/-- Settles O25, by TX_READY's tests and then the transmit state. -/
theorem txReadySendsNextByte : Obligations.TxReadySendsNextByte := by
  intro s hlive hie hthr
  have hready := exec_txReady_enabled hlive hie hthr
  have hnext (hactive : s.sig.txActive = true) (hnoReply : s.sig.pendingReply = none) : exec .txReady s = sendNext s :=
    exec_txReady ⟨hlive, hie, hactive, hnoReply⟩ hthr
  refine ⟨fun hidle => hready.trans (txReady_inactive hidle),
    fun r hactive hreply => hready.trans (txReady_reply hactive hreply),
    fun hactive hnoReply hst => ?start, fun f hactive hnoReply hf => ?held⟩
  case start =>
    rw [hnext hactive hnoReply, sendNext, hst]
    refine ⟨fun hnone hq => ?_, fun f rest hnone hq => ?_, fun f hf => ?_⟩
    · exact congrArg _ (txSendStx_idle hnone hq)
    · exact congrArg _ (txSendStx_queued hnone hq)
    · exact congrArg _ (txSendStx_held hf)
  case held =>
    rw [hnext hactive hnoReply, sendNext, ← lowByte_eq_extractLsb', ← highByte_eq_extractLsb']
    refine ⟨fun hst => ?length, fun hst => ?command, fun b hst hb => ?data, fun hst => ?lsb, fun hst => ?msb, fun hst => ?done⟩
      <;> rw [hst]
    case length | command | lsb | msb => exact withTxFrame_of_some _ hf
    case data => exact (withTxFrame_of_some _ hf).trans (txSendData_of_some hb)
    case done => rfl

end Sys2Proof.Machine
end

section
/-! PROOFS. The driver (44_driver.md R200-R209), O29 to O31 and O41: a builder over its limit or without an allocation, one lemma per
primitive step of DRV_INIT that reads the state, and the uninterrupted DRV_INIT as its steps in a row. -/
namespace Sys2Proof.Machine

/-! ## Builders that do not answer Ok (R201-R206) -/

section
variable {s : State}

theorem buildFrame_tooLong {fits : Bool} (hfits : fits = false) (c : Byte) (p : Bytes) (tag : SenderTag) :
    buildFrame fits c p tag s = (.err .errArgs, s) := by
  rw [buildFrame, hfits]
  rfl

/-- A live builder called directly, over its limit: ErrArgs is its result. -/
theorem callBuilder_err {o : Built × State} {e : Error} (hlive : s.fatal = none) (h : o = (.err e, s)) :
    ifLive s (.next (buildResult o)) = .next { s with result := .failed e } := by
  rw [ifLive_of_live hlive, h, buildResult]

/-- A live builder called directly, when its allocation draw fails: Fatal (20_memory.md R77). -/
theorem callBuilder_fatal {o : Built × State} {r : FatalReason} (hlive : s.fatal = none) (h : o = (.fatal r, afterDraw s)) :
    ifLive s (.next (buildResult o)) = .next { afterDraw s with fatal := some r } := by
  rw [ifLive_of_live hlive, h, buildResult, raise]

theorem mibWrite_fits {n : Nat} : 1 + n ≤ Config.maxMibWriteTotal ↔ n ≤ 253 := by
  unfold Config.maxMibWriteTotal
  omega

/-! ## DRV_RECEIVE_FRAME and DRV_SET_READY (R207, R208) -/

theorem receiveFrame_nil (h : s.q.ind = []) : receiveFrame s = (none, s) := by
  rw [receiveFrame, h, dequeue_nil]

theorem receiveFrame_cons {f : Frame} {rest : List Frame} (h : s.q.ind = f :: rest) :
    receiveFrame s = (some f, { s with q.ind := rest }) := by
  rw [receiveFrame, h, dequeue_cons]

theorem exec_drvReceiveFrame (hlive : s.fatal = none) (htask : s.task = none) :
    exec .drvReceiveFrame s = .next { (receiveFrame s).2 with result := .received (receiveFrame s).1 } := by
  change execDrvReceiveFrame s = _
  rw [execDrvReceiveFrame, ifLive_of_live hlive, htask]

theorem exec_drvSetReady (hlive : s.fatal = none) (htask : s.task = none) (hdone : s.init.phase = .done)
    (hclosed : s.sig.readyGate = false) : exec .drvSetReady s = .next { s with sig.readyGate := true } :=
  (ifLive_of_live hlive _).trans (if_pos (by simp [setReadyEnabled, htask, hdone, hclosed]))

/-! ## The primitive steps of DRV_INIT that read the state (R209)

The others are assignments, and hold by computation. -/

theorem initStep_checkLow_running (h : expired s s.init.tmo = false) : initStep .checkLow s = ended s :=
  if_neg (by simp [h])

theorem initStep_checkLow_expired (h : expired s s.init.tmo = true) : initStep .checkLow s = standing (.init .lineHigh) s :=
  if_pos h

theorem initStep_checkPoll_running (h : expired s s.init.tmo = false) : initStep .checkPoll s = ended s :=
  if_neg (by simp [h])

theorem initStep_checkPoll_expired (h : expired s s.init.tmo = true) : initStep .checkPoll s = standing (.init .takeInd) s :=
  if_pos h

theorem initStep_takeInd_empty (h : s.q.ind = []) : initStep .takeInd s = standing (.init .rearm) s := by
  simp only [initStep, receiveFrame_nil h, goto_eq_standing]

theorem initStep_takeInd_resetInd {f : Frame} {rest : List Frame} (h : s.q.ind = f :: rest)
    (hcode : f.command = s.build.code .reset .ind) :
    initStep .takeInd s = standing (.init .disarm) { s with q.ind := rest } := by
  simp only [initStep, receiveFrame_cons h, if_pos hcode, goto_eq_standing]

theorem initStep_takeInd_other {f : Frame} {rest : List Frame} (h : s.q.ind = f :: rest)
    (hcode : f.command ≠ s.build.code .reset .ind) :
    initStep .takeInd s = standing (.init .rearm) { s with q.ind := rest } := by
  simp only [initStep, receiveFrame_cons h, if_neg hcode, goto_eq_standing]

/-! ## DRV_INIT from its first primitive step to its last -/

theorem initStart_eq_initEnters (s : State) : initStart s = initEnters s := by
  unfold initStart initEnters
  cases s.init.phase <;> rfl

theorem initEnters_notStarted (h : s.init.phase = .notStarted) : initEnters s = standing (.init .lineLow) s := by
  rw [initEnters, h]

theorem initEnters_resetLow (h : s.init.phase = .resetLow) : initEnters s = standing (.init .checkLow) s := by
  rw [initEnters, h]

theorem initEnters_waitInd (h : s.init.phase = .waitInd) : initEnters s = standing (.init .checkPoll) s := by
  rw [initEnters, h]

theorem initEnters_done (h : s.init.phase = .done) : initEnters s = s := by
  rw [initEnters, h]

/-- Before Done, DRV_INIT begins by standing at a primitive step of its own. -/
theorem initEnters_standing (h : s.init.phase ≠ .done) : ∃ p, initEnters s = standing (.init p) s := by
  cases hphase : s.init.phase with
  | notStarted => exact ⟨_, initEnters_notStarted hphase⟩
  | resetLow => exact ⟨_, initEnters_resetLow hphase⟩
  | waitInd => exact ⟨_, initEnters_waitInd hphase⟩
  | done => exact absurd hphase h

/-- DRV_INIT that begins does what DRV_INIT does that stands at the first primitive step. -/
theorem exec_drvInit_begins (hlive : s.fatal = none) (htask : s.task = none) (hphase : s.init.phase ≠ .done) :
    exec .drvInit s = exec .drvInit (initEnters s) := by
  obtain ⟨p, hp⟩ := initEnters_standing hphase
  have hbegins : exec .drvInit s = runPreemptible (initEnters s) := by
    change execDrvInit s = _
    simp [execDrvInit, hlive, htask, initEnabled, hphase, initStart_eq_initEnters]
  have hresumes : exec .drvInit (standing (.init p) s) = runPreemptible (standing (.init p) s) :=
    exec_resumes (p := .init p) (s := standing (.init p) s) hlive rfl
  rw [hbegins, hp, hresumes]

theorem exec_drvInit_enters {p : InitPoint} (hfree : TaskFree s) (h : initEnters s = standing (.init p) s) :
    exec .drvInit s = exec .drvInit (standing (.init p) s) := by
  obtain ⟨hlive, htask, -⟩ := hfree
  have hphase : s.init.phase ≠ .done := by
    intro hdone
    simpa [htask] using congrArg State.task ((initEnters_done hdone).symm.trans h)
  rw [exec_drvInit_begins hlive htask hphase, h]

/-- An uninterrupted task event that ended stays as it ended. -/
theorem goesOn_ended (e : Instr) (hfree : TaskFree s) : goesOn e (.next (ended s)) = .next s := by
  obtain ⟨-, htask, hpre⟩ := hfree
  obtain ⟨u, rfl⟩ := exists_ended htask
  have hkept : scheduled u.env.preempt.tail (ended u) = scheduled u.env.preempt (ended u) := by
    rw [show u.env.preempt = [] from hpre, List.tail_nil]
  exact congrArg _ hkept

/-- An uninterrupted DRV_INIT takes the primitive step it stands at. -/
theorem exec_drvInit_step {p : InitPoint} (hfree : TaskFree s) :
    exec .drvInit (standing (.init p) s) = goesOn .drvInit (.next (initStep p (standing (.init p) s))) := by
  obtain ⟨hlive, -, hpre⟩ := hfree
  exact exec_free (p := .init p) (s := standing (.init p) s) hlive rfl hpre

theorem exec_drvInit_goes {p q : InitPoint} {t : State} (hfree : TaskFree s)
    (h : initStep p (standing (.init p) s) = standing (.init q) t) :
    exec .drvInit (standing (.init p) s) = exec .drvInit (standing (.init q) t) := by
  rw [exec_drvInit_step hfree, h]
  rfl

theorem exec_drvInit_ends {p : InitPoint} {t : State} (hfree : TaskFree s) (hfree' : TaskFree t)
    (h : initStep p (standing (.init p) s) = ended t) : exec .drvInit (standing (.init p) s) = .next t := by
  rw [exec_drvInit_step hfree, h, goesOn_ended _ hfree']

/-- Once its timer has expired, DRV_INIT in WaitInd comes to take a frame of q_ind. -/
theorem exec_drvInit_waitInd_expired (hfree : TaskFree s) (hphase : s.init.phase = .waitInd)
    (hexp : expired s s.init.tmo = true) : exec .drvInit s = exec .drvInit (standing (.init .takeInd) s) := by
  rw [exec_drvInit_enters hfree (initEnters_waitInd hphase)]
  exact exec_drvInit_goes hfree (initStep_checkPoll_expired (s := standing _ s) hexp)

end

/-! ## The statements -/

/-- Settles O29: the length check comes before the draw, and the draw before the frame. -/
theorem buildersRejectOrFault : Obligations.BuildersRejectOrFault := by
  intro index buf s hlive
  refine ⟨fun i hi => ?tooLong, fun i hnok hi => ?exhausted⟩
  case tooLong =>
    rcases hi with ⟨rfl, hlen⟩ | ⟨rfl, hlen⟩ | ⟨rfl, hlen⟩ | ⟨rfl, hlen⟩ | ⟨rfl, hlen⟩
    · have hlong : ¬ 1 + buf.length ≤ Config.maxMibWriteTotal := by rw [mibWrite_fits]; omega
      exact callBuilder_err hlive (buildFrame_tooLong (decide_eq_false hlong) _ _ _)
    · exact callBuilder_err hlive (buildFrame_tooLong (decide_eq_false (Nat.not_le.mpr hlen)) _ _ _)
    · exact callBuilder_err hlive (buildFrame_tooLong (decide_eq_false (Nat.not_le.mpr hlen)) _ _ _)
    · exact callBuilder_err hlive (buildFrame_tooLong (decide_eq_false (Nat.not_le.mpr hlen)) _ _ _)
    · exact callBuilder_err hlive (buildData_tooLong hlen)
  case exhausted =>
    rcases hi with rfl | rfl | ⟨rfl, hlen⟩ | ⟨rfl, hlen⟩ | ⟨rfl, hlen⟩ | ⟨rfl, hlen⟩ | ⟨rfl, hlen⟩
    · exact callBuilder_fatal hlive (buildFrame_exhausted rfl _ _ _ hnok)
    · exact callBuilder_fatal hlive (buildFrame_exhausted rfl _ _ _ hnok)
    · exact callBuilder_fatal hlive (buildFrame_exhausted (decide_eq_true (mibWrite_fits.mpr hlen)) _ _ _ hnok)
    · exact callBuilder_fatal hlive (buildFrame_exhausted (decide_eq_true hlen) _ _ _ hnok)
    · exact callBuilder_fatal hlive (buildFrame_exhausted (decide_eq_true hlen) _ _ _ hnok)
    · exact callBuilder_fatal hlive (buildFrame_exhausted (decide_eq_true hlen) _ _ _ hnok)
    · exact callBuilder_fatal hlive (buildData_exhausted hlen hnok)

/-- Settles O30, by whether q_ind is empty. -/
theorem receiveFrameAndSetReady : Obligations.ReceiveFrameAndSetReady := by
  intro s hlive htask
  refine ⟨fun hempty => ?_, fun f rest hind => ?_, exec_drvSetReady hlive htask⟩
  · rw [exec_drvReceiveFrame hlive htask, receiveFrame_nil hempty]
  · rw [exec_drvReceiveFrame hlive htask, receiveFrame_cons hind]

/-- Settles O41: the beginning, then step by step; the steps that only assign hold by computation. -/
theorem initPrimitiveSteps : Obligations.InitPrimitiveSteps := by
  intro s
  refine ⟨fun hlive htask hphase => ?begins, rfl, rfl, fun hrun => ?checkLow, fun hexp => ?lineHigh, rfl, rfl,
    fun hrun => ?checkPoll, fun hexp => ?takeInd, fun f rest hind hcode => ?resetInd, fun f rest hind hcode => ?other,
    fun hempty => ?empty, rfl, rfl⟩
  case begins =>
    obtain ⟨p, hp⟩ := initEnters_standing hphase
    rw [exec_drvInit_begins hlive htask hphase, hp]
    rfl
  case checkLow => exact congrArg _ (initStep_checkLow_running hrun)
  case lineHigh => exact congrArg _ (initStep_checkLow_expired hexp)
  case checkPoll => exact congrArg _ (initStep_checkPoll_running hrun)
  case takeInd => exact congrArg _ (initStep_checkPoll_expired hexp)
  case resetInd => exact congrArg _ (initStep_takeInd_resetInd hind hcode)
  case other => exact congrArg _ (initStep_takeInd_other hind hcode)
  case empty => exact congrArg _ (initStep_takeInd_empty hempty)

/-- Settles O31: each phase is its primitive steps in a row. -/
theorem initAdvances : Obligations.InitAdvances := by
  intro s hfree
  refine ⟨fun hphase => ?notStarted, fun hphase hrun => ?lowRunning, fun hphase hexp => ?lowExpired,
    fun hphase hrun => ?pollRunning, fun hphase hexp hempty => ?empty, fun f rest hphase hexp hind hcode => ?resetInd,
    fun f rest hphase hexp hind hcode => ?other⟩
  case notStarted =>
    calc exec .drvInit s
      _ = exec .drvInit (standing (.init .lineLow) s) := exec_drvInit_enters hfree (initEnters_notStarted hphase)
      _ = exec .drvInit (standing (.init .armLow) (setResetLine .low s)) := exec_drvInit_goes hfree rfl
      _ = .next { s with line.reset := .low, init := { phase := .resetLow, tmo := armed s 1500 } } :=
        exec_drvInit_ends (s := setResetLine .low s) hfree hfree rfl
  case lowRunning =>
    rw [exec_drvInit_enters hfree (initEnters_resetLow hphase)]
    exact exec_drvInit_ends hfree hfree (initStep_checkLow_running (s := standing _ s) hrun)
  case lowExpired =>
    calc exec .drvInit s
      _ = exec .drvInit (standing (.init .checkLow) s) := exec_drvInit_enters hfree (initEnters_resetLow hphase)
      _ = exec .drvInit (standing (.init .lineHigh) s) :=
        exec_drvInit_goes hfree (initStep_checkLow_expired (s := standing _ s) hexp)
      _ = exec .drvInit (standing (.init .armPoll) (setResetLine .high s)) := exec_drvInit_goes hfree rfl
      _ = .next { s with line.reset := .high, init := { phase := .waitInd, tmo := armed s 100 } } :=
        exec_drvInit_ends (s := setResetLine .high s) hfree hfree rfl
  case pollRunning =>
    rw [exec_drvInit_enters hfree (initEnters_waitInd hphase)]
    exact exec_drvInit_ends hfree hfree (initStep_checkPoll_running (s := standing _ s) hrun)
  case empty =>
    calc exec .drvInit s
      _ = exec .drvInit (standing (.init .takeInd) s) := exec_drvInit_waitInd_expired hfree hphase hexp
      _ = exec .drvInit (standing (.init .rearm) s) :=
        exec_drvInit_goes hfree (initStep_takeInd_empty (s := standing _ s) hempty)
      _ = .next { s with init.tmo := armed s 100 } := exec_drvInit_ends hfree hfree rfl
  case resetInd =>
    calc exec .drvInit s
      _ = exec .drvInit (standing (.init .takeInd) s) := exec_drvInit_waitInd_expired hfree hphase hexp
      _ = exec .drvInit (standing (.init .disarm) { s with q.ind := rest }) :=
        exec_drvInit_goes hfree (initStep_takeInd_resetInd (s := standing _ s) hind hcode)
      _ = .next { s with q.ind := rest, init.phase := .done, init.tmo.armed := false } :=
        exec_drvInit_ends (s := { s with q.ind := rest }) hfree hfree rfl
  case other =>
    calc exec .drvInit s
      _ = exec .drvInit (standing (.init .takeInd) s) := exec_drvInit_waitInd_expired hfree hphase hexp
      _ = exec .drvInit (standing (.init .rearm) { s with q.ind := rest }) :=
        exec_drvInit_goes hfree (initStep_takeInd_other (s := standing _ s) hind hcode)
      _ = .next { s with q.ind := rest, init.tmo := armed s 100 } := exec_drvInit_ends (s := { s with q.ind := rest }) hfree hfree rfl

end Sys2Proof.Machine
end

section
/-! PROOFS. The sequencer (45_sequencer.md R230-R239), O33 to O38: SEQ_ENQUEUE by what it is given, the confirmation check, one lemma
per primitive step of SEQ_POLL that reads the state, and the direct SEQ_POLL of each stage as its steps in a row. -/
namespace Sys2Proof.Machine

/-! ## SEQ_ENQUEUE (R230) -/

section
variable {s : State} {f : Frame} {tag : SenderTag}

theorem exec_seqEnqueue (hlive : s.fatal = none) (htag : tag ≠ .inactive) (hf : frameWf f = true) (hstart : f.start = 0x02) :
    exec (.seqEnqueue f tag) s = .next (seqEnqueue f tag s) := by
  change execSeqEnqueue f tag s = _
  rw [execSeqEnqueue, ifLive_of_live hlive, if_neg htag, if_pos (by simp [hf, hstart, Config.stxRequest])]

theorem exec_seqEnqueue_busy (hlive : s.fatal = none) (htag : tag ≠ .inactive) (hbusy : seqIdle s = false) :
    exec (.seqEnqueue f tag) s = .next (raise .seqEnqueueBusy s) := by
  change execSeqEnqueue f tag s = _
  rw [execSeqEnqueue, ifLive_of_live hlive, if_neg htag, seqEnqueue, hbusy]
  exact ite_self _

end

/-! ## The confirmation check (R238) -/

section
variable {b : Build} {tag : SenderTag} {fam : Family} {c : Frame}

/-- The tags of a request with their families, as the statements list them (30_encoding.md R100). -/
theorem tagFamily_of_listed (h : (tag, fam) ∈ [(SenderTag.reset, Family.reset), (.mibWrite, .mibWrite), (.mibErase, .mibErase),
    (.phyData, .phy), (.dlData, .dl)] ∨ (∃ p, tag = .ping p ∧ fam = .ping)) : tagFamily tag = some fam := by
  rcases h with h | ⟨p, rfl, rfl⟩
  · simp only [List.mem_cons, Prod.mk.injEq, List.not_mem_nil, or_false] at h
    rcases h with ⟨rfl, rfl⟩ | ⟨rfl, rfl⟩ | ⟨rfl, rfl⟩ | ⟨rfl, rfl⟩ | ⟨rfl, rfl⟩ <;> rfl
  · rfl

theorem active_of_tagFamily (h : tagFamily tag = some fam) : tag ≠ .inactive := by rintro rfl; cases h

theorem expected_iff (h : tagFamily tag = some fam) (x : Byte) :
    expected b tag x = true ↔ x = b.code fam .cnf ∨ x = b.code fam .err := by
  simp [expected, h]

theorem confirmation_unexpected (h : tagFamily tag = some fam) (hcnf : c.command ≠ b.code fam .cnf)
    (herr : c.command ≠ b.code fam .err) : confirmation b tag c = .fail .errConfirm := by
  have hcode : ¬ expected b tag c.command = true := by rw [expected_iff h]; exact not_or.mpr ⟨hcnf, herr⟩
  exact if_pos (by simpa using hcode)

variable (h : tagFamily tag = some fam) (hcode : c.command = b.code fam .cnf ∨ c.command = b.code fam .err)
include h hcode

theorem confirmation_echoDiffers (hecho : ∃ p, tag = .ping p ∧ c.payload ≠ p) : confirmation b tag c = .fail .errPing := by
  obtain ⟨p, rfl, hne⟩ := hecho
  simp [confirmation, (expected_iff h _).mpr hcode, hne]

theorem confirmation_ready (hecho : ∀ p, tag = .ping p → c.payload = p) : confirmation b tag c = .ready c := by
  have hexpected := (expected_iff h _).mpr hcode
  cases tag with
  | ping p => simp [confirmation, hexpected, hecho p rfl]
  | inactive | reset | mibWrite | mibErase | phyData | dlData => simp [confirmation, hexpected]

end

/-! ## The primitive steps of SEQ_POLL that read the state (R232-R237)

The others are assignments; those that go on hold by computation. -/

section
variable {s : State} (k : Caller)

theorem next_seqReturn (r : PollResult) (t : State) : (.next (seqReturn k r t) : Out) = .next (pollReturns k r t) :=
  congrArg _ (seqReturn_eq_pollReturns k r t)

theorem next_seqFinish (r : PollResult) (t : State) : (.next (seqFinish k r t) : Out) = .next (pollReturns k r (idled t)) :=
  next_seqReturn k r (idled t)

theorem taskStep_drain_cons {v : Byte} {rest : Bytes} (h : s.q.status = v :: rest) :
    taskStep (.seq k .drain) s = .next (standing (.seq k .drain) { s with q.status := rest }) := by
  simp only [taskStep, seqStep, h, dequeue_cons, goto_eq_standing]

theorem taskStep_drain_nil (h : s.q.status = []) : taskStep (.seq k .drain) s = .next (standing (.seq k .lineLow) s) := by
  simp only [taskStep, seqStep, h, dequeue_nil, goto_eq_standing]

theorem busy_iff (v : Byte) : busy v = true ↔ v &&& 0x06 ≠ 0 := decide_eq_true_iff

theorem taskStep_takeStatus_busy {v : Byte} {rest : Bytes} (h : s.q.status = v :: rest) (hv : v &&& 0x06 ≠ 0) :
    taskStep (.seq k .takeStatus) s = .next (standing (.seq k .busyLine) { s with q.status := rest }) := by
  simp only [taskStep, seqStep, h, dequeue_cons, if_pos ((busy_iff v).mpr hv), goto_eq_standing]

theorem taskStep_takeStatus_free {v : Byte} {rest : Bytes} (h : s.q.status = v :: rest) (hv : v &&& 0x06 = 0) :
    taskStep (.seq k .takeStatus) s = .next (standing (.seq k .release) { s with q.status := rest }) := by
  have hfree : ¬ busy v = true := fun hbusy => (busy_iff v).mp hbusy hv
  simp only [taskStep, seqStep, h, dequeue_cons, if_neg hfree, goto_eq_standing]

theorem taskStep_takeStatus_nil (h : s.q.status = []) :
    taskStep (.seq k .takeStatus) s = .next (standing (.seq k .checkStatus) s) := by
  simp only [taskStep, seqStep, h, dequeue_nil, goto_eq_standing]

theorem taskStep_checkStatus_expired (h : expired s s.seq.tmoStatus = true) :
    taskStep (.seq k .checkStatus) s = .next (standing (.seq k .noStatusLine) s) := congrArg _ (if_pos h)

theorem taskStep_checkStatus_running (h : expired s s.seq.tmoStatus = false) :
    taskStep (.seq k .checkStatus) s = .next (pollReturns k .wouldBlock s) :=
  (congrArg _ (if_neg (by simp [h]))).trans (next_seqReturn k _ s)

theorem taskStep_release_room {f : Frame} (hf : s.seq.frame = some f) (hroom : s.q.tx.length < Config.capTx) :
    taskStep (.seq k .release) s =
      .next (standing (.seq k .enableIrq) { s with q.tx := s.q.tx ++ [f], seq.frame := none }) := by
  simp only [taskStep, seqStep, hf, enqueue_of_room f hroom, goto_eq_standing]

theorem taskStep_release_full {f : Frame} (hf : s.seq.frame = some f) (hfull : Config.capTx ≤ s.q.tx.length) :
    taskStep (.seq k .release) s = .next (fatalEnd .txQueueFull s) := by
  simp only [taskStep, seqStep, hf, enqueue_of_full f hfull, raiseInTask_eq_fatalEnd]

theorem taskStep_readDone_sent (h : s.sig.txDone = true) :
    taskStep (.seq k .readDone) s = .next (standing (.seq k .armAck) s) := congrArg _ (if_pos h)

theorem taskStep_readDone_sending (h : s.sig.txDone = false) :
    taskStep (.seq k .readDone) s = .next (pollReturns k .wouldBlock s) :=
  (congrArg _ (if_neg (by simp [h]))).trans (next_seqReturn k _ s)

theorem taskStep_takeAck_nak {rest : List Reply} (h : s.q.ack = .nak :: rest) :
    taskStep (.seq k .takeAck) s = .next (pollReturns k (.fail .txErrNak) (idled { s with q.ack := rest })) := by
  simp only [taskStep, seqStep, h, dequeue_cons, next_seqFinish]

theorem taskStep_takeAck_ack {rest : List Reply} (h : s.q.ack = .ack :: rest) :
    taskStep (.seq k .takeAck) s = .next (standing (.seq k .armCnf) { s with q.ack := rest }) := by
  simp only [taskStep, seqStep, h, dequeue_cons, goto_eq_standing]

theorem taskStep_takeAck_nil (h : s.q.ack = []) : taskStep (.seq k .takeAck) s = .next (standing (.seq k .checkAck) s) := by
  simp only [taskStep, seqStep, h, dequeue_nil, goto_eq_standing]

theorem taskStep_checkAck_expired (h : expired s s.seq.tmoAck = true) :
    taskStep (.seq k .checkAck) s = .next (pollReturns k (.fail .txErrAckTmo) (idled s)) :=
  (congrArg _ (if_pos h)).trans (next_seqFinish k _ s)

theorem taskStep_checkAck_running (h : expired s s.seq.tmoAck = false) :
    taskStep (.seq k .checkAck) s = .next (pollReturns k .wouldBlock s) :=
  (congrArg _ (if_neg (by simp [h]))).trans (next_seqReturn k _ s)

theorem taskStep_takeCnf_cons {c : Frame} {rest : List Frame} (h : s.q.cnf = c :: rest) :
    taskStep (.seq k .takeCnf) s =
      .next (pollReturns k (confirmation s.build s.seq.tag c) (idled { s with q.cnf := rest })) := by
  simp only [taskStep, seqStep, h, dequeue_cons, next_seqFinish]

theorem taskStep_takeCnf_nil (h : s.q.cnf = []) : taskStep (.seq k .takeCnf) s = .next (standing (.seq k .checkCnf) s) := by
  simp only [taskStep, seqStep, h, dequeue_nil, goto_eq_standing]

theorem taskStep_checkCnf_expired (h : expired s s.seq.tmoCnf = true) :
    taskStep (.seq k .checkCnf) s = .next (pollReturns k (.fail .errTimeout) (idled s)) :=
  (congrArg _ (if_pos h)).trans (next_seqFinish k _ s)

theorem taskStep_checkCnf_running (h : expired s s.seq.tmoCnf = false) :
    taskStep (.seq k .checkCnf) s = .next (pollReturns k .wouldBlock s) :=
  (congrArg _ (if_neg (by simp [h]))).trans (next_seqReturn k _ s)

end

/-! ## A direct SEQ_POLL from one primitive step to its end -/

/-- A direct SEQ_POLL that stands at primitive step `p`, run to its end (log entry 11). -/
def pollFrom (p : SeqPoint) (s : State) : Out := runTask (taskFuel s) (standing (.seq .direct p) s)

section
variable {s t : State} {p : SeqPoint}

theorem exec_seqPoll_start (hlive : s.fatal = none) (htask : s.task = none) :
    exec .seqPoll s = runTask (taskFuel s) (seqStart .direct s) := by
  change execSeqPoll s = _
  rw [execSeqPoll, ifLive_of_live hlive, htask]

theorem exec_seqPoll_inactive (hlive : s.fatal = none) (htask : s.task = none) (htag : s.seq.tag = .inactive) :
    exec .seqPoll s = .next { s with fatal := some .seqPollInactive } := by
  rw [exec_seqPoll_start hlive htask, seqStart, if_pos htag]
  exact runTask_fatalEnd _ _ htask

theorem exec_seqPoll_stage {st : SeqState} (hlive : s.fatal = none) (htask : s.task = none) (htag : s.seq.tag ≠ .inactive)
    (hst : s.seq.state = st) : exec .seqPoll s = pollFrom (seqEntry st) s := by
  rw [exec_seqPoll_start hlive htask, seqStart, if_neg htag, hst]
  rfl

theorem pollFrom_goes {q : SeqPoint}
    (h : taskStep (.seq .direct p) (standing (.seq .direct p) s) = .next (standing (.seq .direct q) t)) :
    pollFrom p s = pollFrom q t := by
  have hfuel : remaining (standing (.seq .direct p) s) ≤ taskFuel s := remaining_le_taskFuel (standing (.seq .direct p) s)
  have hlt := (taskStep_proceeds h).remaining_lt (stepsLeft_pos _ _)
  rw [remaining_of_task (standing_task _ s)] at hfuel
  obtain ⟨m, hm⟩ : ∃ m, taskFuel s = m + 1 := ⟨_, rfl⟩
  rw [hm] at hfuel
  rw [pollFrom, hm, runTask_of_step m rfl h]
  exact runTask_of_enough (by omega) (remaining_le_taskFuel (standing (.seq .direct q) t))

theorem pollFrom_returns {r : PollResult} (htask : t.task = none)
    (h : taskStep (.seq .direct p) (standing (.seq .direct p) s) = .next (pollReturns .direct r t)) :
    pollFrom p s = .next (answered r t) :=
  (runTask_of_step _ rfl h).trans (runTask_ended (s := answered r t) _ htask)

theorem pollFrom_raises {r : FatalReason} (htask : t.task = none)
    (h : taskStep (.seq .direct p) (standing (.seq .direct p) s) = .next (fatalEnd r t)) :
    pollFrom p s = .next { t with fatal := some r } :=
  (runTask_of_step _ rfl h).trans (runTask_fatalEnd _ r htask)

/-- The Drain of R232 takes every status byte. -/
theorem pollFrom_drain (s : State) : pollFrom .drain s = pollFrom .lineLow { s with q.status := [] } := by
  induction hq : s.q.status generalizing s with
  | nil =>
    have hsame : { s with q.status := [] } = s := by rw [← hq]
    rw [hsame]
    exact pollFrom_goes (taskStep_drain_nil (s := standing _ s) .direct hq)
  | cons v rest ih =>
    rw [pollFrom_goes (t := { s with q.status := rest }) (taskStep_drain_cons (s := standing _ s) .direct hq)]
    exact ih { s with q.status := rest } rfl

/-- The confirmation check is one primitive step, and the poll's last (R237, R238). -/
theorem pollFrom_takeCnf {c : Frame} {rest : List Frame} (htask : s.task = none) (h : s.q.cnf = c :: rest) :
    pollFrom .takeCnf s = .next (answered (confirmation s.build s.seq.tag c) (idled { s with q.cnf := rest })) :=
  pollFrom_returns (t := idled { s with q.cnf := rest }) htask (taskStep_takeCnf_cons (s := standing _ s) .direct h)

end

/-! ## The statements -/

/-- Settles O33: the tag is tested first, then the frame, then the sequencer. -/
theorem seqEnqueueTakesOneRequest : Obligations.SeqEnqueueTakesOneRequest := by
  intro f tag s hlive
  refine ⟨fun hf hstart htag hst hinactive => ?_, fun htag hbusy => ?_, fun htag => ?_⟩
  · have hidle : seqIdle s = true := by simp [seqIdle, hst, hinactive]
    rw [exec_seqEnqueue hlive htag hf hstart, seqEnqueue, if_pos hidle]
  · have hnot : seqIdle s = false := by
      rw [seqIdle, Bool.and_eq_false_iff, decide_eq_false_iff_not, decide_eq_false_iff_not]
      exact hbusy
    exact exec_seqEnqueue_busy hlive htag hnot
  · change execSeqEnqueue f tag s = _
    rw [execSeqEnqueue, ifLive_of_live hlive, if_pos htag]

/-- Settles O34: the five kinds of steps of TxreqLow in a row. -/
theorem seqPollRequestsLine : Obligations.SeqPollRequestsLine := by
  intro s hlive htask
  refine ⟨exec_seqPoll_inactive hlive htask, fun htag hst => ?_⟩
  calc exec .seqPoll s
    _ = pollFrom .clearDone s := exec_seqPoll_stage hlive htask htag hst
    _ = pollFrom .drain { s with sig.txDone := false } := pollFrom_goes rfl
    _ = pollFrom .lineLow { s with sig.txDone := false, q.status := [] } := pollFrom_drain _
    _ = pollFrom .armStatus { s with sig.txDone := false, q.status := [], line.txreq := .low } := pollFrom_goes rfl
    _ = pollFrom .setStatusWait
          { s with sig.txDone := false, q.status := [], line.txreq := .low, seq.tmoStatus := armed s 200 } := pollFrom_goes rfl
    _ = .next (answered .wouldBlock { s with
          sig := { s.sig with txDone := false, statusWait := true }, q.status := [], line.txreq := .low,
          seq := { s.seq with state := .waitStatusFrame, tmoStatus := armed s 200 } }) := pollFrom_returns htask rfl

/-- Settles O35: the status byte decides, or else the timeout. -/
theorem seqPollTakesStatus : Obligations.SeqPollTakesStatus := by
  intro s hlive htask htag hst
  have hbegins : exec .seqPoll s = pollFrom .takeStatus s := exec_seqPoll_stage hlive htask htag hst
  have hempty (hq : s.q.status = []) : exec .seqPoll s = pollFrom .checkStatus s :=
    hbegins.trans (pollFrom_goes (taskStep_takeStatus_nil (s := standing _ s) .direct hq))
  have hfree {v : Byte} {rest : Bytes} (hq : s.q.status = v :: rest) (hv : v &&& 0x06 = 0) :
      exec .seqPoll s = pollFrom .release { s with q.status := rest } :=
    hbegins.trans (pollFrom_goes (taskStep_takeStatus_free (s := standing _ s) .direct hq hv))
  refine ⟨fun hq hrun => ?running, fun hq hexp => ?expired, fun v rest hq hv => ?busy, fun v rest f hq hv hf hroom => ?released,
    fun v rest f hq hv hf hfull => ?full⟩
  case running =>
    rw [hempty hq]
    exact pollFrom_returns htask (taskStep_checkStatus_running (s := standing _ s) .direct hrun)
  case expired =>
    calc exec .seqPoll s
      _ = pollFrom .checkStatus s := hempty hq
      _ = pollFrom .noStatusLine s := pollFrom_goes (taskStep_checkStatus_expired (s := standing _ s) .direct hexp)
      _ = .next (answered (.fail .txErrNoStatus) (idled { s with line.txreq := .high })) := pollFrom_returns htask rfl
  case busy =>
    calc exec .seqPoll s
      _ = pollFrom .takeStatus s := hbegins
      _ = pollFrom .busyLine { s with q.status := rest } :=
        pollFrom_goes (taskStep_takeStatus_busy (s := standing _ s) .direct hq hv)
      _ = .next (answered (.fail .txErrBusy) (idled { s with q.status := rest, line.txreq := .high })) :=
        pollFrom_returns htask rfl
  case released =>
    calc exec .seqPoll s
      _ = pollFrom .release { s with q.status := rest } := hfree hq hv
      _ = pollFrom .enableIrq { s with q := { s.q with status := rest, tx := s.q.tx ++ [f] }, seq.frame := none } :=
        pollFrom_goes (taskStep_release_room (s := standing _ { s with q.status := rest }) .direct hf hroom)
      _ = pollFrom .signalActive
            { s with q := { s.q with status := rest, tx := s.q.tx ++ [f] }, sig.txIe := true, seq.frame := none } :=
        pollFrom_goes rfl
      _ = .next (answered .wouldBlock { s with
            q := { s.q with status := rest, tx := s.q.tx ++ [f] }, sig := { s.sig with txIe := true, txActive := true },
            seq := { s.seq with frame := none, state := .waitTxFrameDone } }) := pollFrom_returns htask rfl
  case full =>
    rw [hfree hq hv]
    exact pollFrom_raises (t := { s with q.status := rest }) htask
      (taskStep_release_full (s := standing _ { s with q.status := rest }) .direct hf hfull)

/-- Settles O36: WaitTxFrameDone by tx_done, WaitAck by the first of q_ack, or else the timeout. -/
theorem seqPollWaitsForAck : Obligations.SeqPollWaitsForAck := by
  intro s hlive htask htag
  have hsending (hst : s.seq.state = .waitTxFrameDone) : exec .seqPoll s = pollFrom .readDone s :=
    exec_seqPoll_stage hlive htask htag hst
  have hack (hst : s.seq.state = .waitAck) : exec .seqPoll s = pollFrom .takeAck s := exec_seqPoll_stage hlive htask htag hst
  have hempty (hst : s.seq.state = .waitAck) (hq : s.q.ack = []) : exec .seqPoll s = pollFrom .checkAck s :=
    (hack hst).trans (pollFrom_goes (taskStep_takeAck_nil (s := standing _ s) .direct hq))
  refine ⟨fun hst hdone => ?sending, fun hst hdone => ?sent, fun rest hst hq => ?nak, fun rest hst hq => ?ack,
    fun hst hq hexp => ?expired, fun hst hq hrun => ?running⟩
  case sending =>
    rw [hsending hst]
    exact pollFrom_returns htask (taskStep_readDone_sending (s := standing _ s) .direct hdone)
  case sent =>
    calc exec .seqPoll s
      _ = pollFrom .readDone s := hsending hst
      _ = pollFrom .armAck s := pollFrom_goes (taskStep_readDone_sent (s := standing _ s) .direct hdone)
      _ = pollFrom .setAckWait { s with seq.tmoAck := armed s 40 } := pollFrom_goes rfl
      _ = .next (answered .wouldBlock
            { s with sig.ackWait := true, seq := { s.seq with tmoAck := armed s 40, state := .waitAck } }) :=
        pollFrom_returns htask rfl
  case nak =>
    rw [hack hst]
    exact pollFrom_returns (t := idled { s with q.ack := rest }) htask (taskStep_takeAck_nak (s := standing _ s) .direct hq)
  case ack =>
    calc exec .seqPoll s
      _ = pollFrom .takeAck s := hack hst
      _ = pollFrom .armCnf { s with q.ack := rest } := pollFrom_goes (taskStep_takeAck_ack (s := standing _ s) .direct hq)
      _ = .next (answered .wouldBlock
            { s with q.ack := rest, seq := { s.seq with tmoCnf := armed s 4000, state := .waitCnf } }) :=
        pollFrom_returns htask rfl
  case expired =>
    rw [hempty hst hq]
    exact pollFrom_returns (t := idled s) htask (taskStep_checkAck_expired (s := standing _ s) .direct hexp)
  case running =>
    rw [hempty hst hq]
    exact pollFrom_returns htask (taskStep_checkAck_running (s := standing _ s) .direct hrun)

/-- Settles O37: the confirmation check of the first frame of q_cnf, or else the timeout. -/
theorem seqPollTakesConfirmation : Obligations.SeqPollTakesConfirmation := by
  intro s hlive htask hst
  have hbegins (htag : s.seq.tag ≠ .inactive) : exec .seqPoll s = pollFrom .takeCnf s :=
    exec_seqPoll_stage hlive htask htag hst
  have hempty (htag : s.seq.tag ≠ .inactive) (hq : s.q.cnf = []) : exec .seqPoll s = pollFrom .checkCnf s :=
    (hbegins htag).trans (pollFrom_goes (taskStep_takeCnf_nil (s := standing _ s) .direct hq))
  refine ⟨fun htag hq hrun => ?running, fun htag hq hexp => ?expired, fun c rest fam hq hlisted => ?confirmed⟩
  case running =>
    rw [hempty htag hq]
    exact pollFrom_returns htask (taskStep_checkCnf_running (s := standing _ s) .direct hrun)
  case expired =>
    rw [hempty htag hq]
    exact pollFrom_returns (t := idled s) htask (taskStep_checkCnf_expired (s := standing _ s) .direct hexp)
  case confirmed =>
    have hfam := tagFamily_of_listed hlisted
    rw [hbegins (active_of_tagFamily hfam), pollFrom_takeCnf htask hq]
    refine ⟨fun hcnf herr => ?_, fun hcode => ⟨fun hecho => ?_, fun hecho => ?_⟩⟩
    · rw [confirmation_unexpected hfam hcnf herr]
    · rw [confirmation_echoDiffers hfam hcode hecho]
    · rw [confirmation_ready hfam hcode hecho]

/-- Settles O38: stage by stage, each step by its lemma; the steps that only assign and go on hold by computation. -/
theorem seqPollPrimitiveSteps : Obligations.SeqPollPrimitiveSteps := by
  intro k s
  refine ⟨?txreqLow, ?waitStatusFrame, ?waitTxFrameDone, ?waitAck, ?waitCnf⟩
  case txreqLow =>
    exact ⟨rfl, fun _ _ => taskStep_drain_cons k, taskStep_drain_nil k, rfl, rfl, next_seqReturn k _ _⟩
  case waitStatusFrame =>
    exact ⟨fun _ _ => taskStep_takeStatus_busy k, fun _ _ => taskStep_takeStatus_free k, taskStep_takeStatus_nil k,
      taskStep_checkStatus_expired k, taskStep_checkStatus_running k, next_seqFinish k _ _, next_seqFinish k _ _,
      fun _ => taskStep_release_room k, fun _ => taskStep_release_full k, rfl, next_seqReturn k _ _⟩
  case waitTxFrameDone =>
    exact ⟨taskStep_readDone_sent k, taskStep_readDone_sending k, rfl, next_seqReturn k _ _⟩
  case waitAck =>
    exact ⟨fun _ => taskStep_takeAck_nak k, fun _ => taskStep_takeAck_ack k, taskStep_takeAck_nil k, next_seqReturn k _ _,
      taskStep_checkAck_expired k, taskStep_checkAck_running k⟩
  case waitCnf =>
    refine ⟨fun c rest fam hq hlisted => ?_, taskStep_takeCnf_nil k, taskStep_checkCnf_expired k, taskStep_checkCnf_running k⟩
    have hfam := tagFamily_of_listed hlisted
    dsimp only
    rw [taskStep_takeCnf_cons k hq]
    refine ⟨fun hcnf herr => ?_, fun hcode => ⟨fun hecho => ?_, fun hecho => ?_⟩⟩
    · rw [confirmation_unexpected hfam hcnf herr]
    · rw [confirmation_echoDiffers hfam hcode hecho]
    · rw [confirmation_ready hfam hcode hecho]

end Sys2Proof.Machine
end

section
/-! PROOFS. At most one request frame in flight (45_sequencer.md R241), O59: what the engine leaves of q_tx, tx_done and TX_QUEUE_FULL
outside SEQ_POLL and TX_READY; the invariant at each primitive step of SEQ_POLL and where the TX framer finishes a frame; then every
instruction. -/
namespace Sys2Proof.Machine

/-! ## Who does not release a frame -/

/-- What belongs to R241 and is written by SEQ_POLL (45_sequencer.md R232, R234) and TX_READY (43_tx_framer.md R182, R188) alone. -/
structure OutboundLeaves (s t : State) : Prop where
  queue : t.q.tx = s.q.tx := by rfl
  done : t.sig.txDone = s.sig.txDone := by rfl
  fatal : t.fatal = some .txQueueFull → s.fatal = some .txQueueFull := by simp

theorem OutboundLeaves.trans {s u t : State} (h : OutboundLeaves s u) (g : OutboundLeaves u t) : OutboundLeaves s t where
  queue := g.queue.trans h.queue
  done := g.done.trans h.done
  fatal := h.fatal ∘ g.fatal

section
variable (s : State)

/-! ### Reception -/

theorem enqueueInd_outbound (f : Frame) : OutboundLeaves s (enqueueInd f s) := by
  rcases enqueueInd_cases f s with ⟨_, h⟩ | ⟨_, h⟩ <;> rw [h] <;> exact {}

theorem enqueueCnf_outbound (f : Frame) : OutboundLeaves s (enqueueCnf f s) := by
  rcases enqueueCnf_cases f s with ⟨_, h⟩ | ⟨_, h⟩ <;> rw [h] <;> exact {}

theorem enqueueStatus_outbound (b : Byte) : OutboundLeaves s (enqueueStatus b s) := by
  rcases enqueueStatus_cases b s with ⟨_, h⟩ | ⟨_, h⟩ <;> rw [h] <;> exact {}

theorem enqueueAck_outbound (r : Reply) : OutboundLeaves s (enqueueAck r s) := by
  rcases enqueueAck_cases r s with ⟨_, h⟩ | ⟨_, h⟩ <;> rw [h] <;> exact {}

theorem route_outbound (f : Frame) : OutboundLeaves s (route f s) := by
  unfold route
  repeat' split
  · exact enqueueInd_outbound s f
  · exact {}
  · exact enqueueCnf_outbound s f
  · exact enqueueCnf_outbound s f

theorem csumFail_outbound : OutboundLeaves s (csumFail s) := by
  unfold csumFail
  split <;> exact {}

theorem rxReply_outbound (r : Reply) : OutboundLeaves s (rxReply r s) := by
  have hqueued := enqueueAck_outbound s r
  unfold rxReply
  split
  · dsimp only
    split
    · exact hqueued
    · exact hqueued.trans {}
  · split <;> exact {}

theorem rxFirstByte_outbound (b : Byte) : OutboundLeaves s (rxFirstByte b s) := by
  unfold rxFirstByte
  split
  · exact rxReply_outbound s _
  · unfold rxStatusMark
    split <;> exact {}
  · obtain ⟨ok, alloc, h⟩ := drawAlloc_answer s
    unfold rxFrameStart
    rw [h]
    cases ok <;> exact {}
  · exact {}

theorem rxStatusValue_outbound (b : Byte) : OutboundLeaves s (rxStatusValue b s) := by
  have hqueued := enqueueStatus_outbound s b
  unfold rxStatusValue
  dsimp only
  split
  · exact hqueued
  · exact hqueued.trans {}

theorem rxRearm_outbound : OutboundLeaves s (rxRearm s) := by
  unfold rxRearm
  split <;> exact {}

theorem rxChecksumMsb_outbound (b : Byte) : OutboundLeaves s (rxChecksumMsb b s) := by
  have hclosed : OutboundLeaves s (frameClosed s) := { fatal := id }
  have hroute := hclosed.trans (route_outbound (frameClosed s) (rxFrame s b))
  rcases rxChecksumMsb_cases b s with h | h | h <;> rw [h]
  · exact hroute
  · exact hroute.trans {}
  · exact hclosed.trans (csumFail_outbound _)

theorem rxDispatch_outbound (b : Byte) : OutboundLeaves s (rxDispatch b s) := by
  unfold rxDispatch
  split
  · exact rxFirstByte_outbound s b
  · exact rxStatusValue_outbound s b
  · exact OutboundLeaves.trans {} (rxRearm_outbound _)
  · exact OutboundLeaves.trans {} (rxRearm_outbound _)
  · exact OutboundLeaves.trans {} (rxRearm_outbound _)
  · exact OutboundLeaves.trans {} (rxRearm_outbound _)
  · exact rxChecksumMsb_outbound s b

theorem rxByte_outbound (b : Byte) : OutboundLeaves s (rxByte b s) := by
  have hexpire : OutboundLeaves s (rxExpire s) := by
    unfold rxExpire
    split <;> exact {}
  exact hexpire.trans (rxDispatch_outbound _ b)

/-! ### The session and DRV_INIT -/

theorem seqStart_outbound (k : Caller) : OutboundLeaves s (seqStart k s) := by
  unfold seqStart
  split <;> exact {}

theorem seqReturn_outbound (k : Caller) (r : PollResult) : OutboundLeaves s (seqReturn k r s) := by
  unfold seqReturn
  repeat' split
  all_goals exact {}

theorem seqFinish_outbound (k : Caller) (r : PollResult) : OutboundLeaves s (seqFinish k r s) :=
  OutboundLeaves.trans {} (seqReturn_outbound (seqToIdle s) k r)

theorem inbound_outbound (put : TaskPoint) : OutboundLeaves s (inbound put s) := by
  obtain ⟨ok, alloc, h⟩ := drawAlloc_answer s
  unfold inbound
  rw [h]
  cases ok <;> exact {}

/-- A builder's own fatal reasons: the allocation and the frame (44_driver.md, opening). -/
theorem buildFrame_raises {fits : Bool} {command : Byte} {p : Bytes} {tag : SenderTag} {s t : State} {r : FatalReason}
    (h : buildFrame fits command p tag s = (.fatal r, t)) : r ≠ .txQueueFull := by
  rcases buildFrame_cases fits command p tag s with ⟨_, he⟩ | ⟨_, _, he⟩ | ⟨_, _, _, _, he⟩ | ⟨_, _, _, he⟩ <;>
    rw [he] at h <;> cases h <;> simp

theorem sendApp_raises {app : Bytes} {s t : State} {r : FatalReason} (h : sendApp app s = .fatal r t) : r ≠ .txQueueFull := by
  unfold sendApp at h
  split at h
  · cases h
  case h_2 hbuilt =>
    cases h
    unfold buildData at hbuilt
    split at hbuilt <;> exact buildFrame_raises hbuilt
  · split at h <;> cases h
    simp

theorem ldrSend_outbound (app : Bytes) (next : LdrState) : OutboundLeaves s (ldrSend app next s) := by
  obtain ⟨alloc, ⟨e, h⟩ | ⟨r, h⟩ | ⟨f, tag, -, -, h⟩⟩ := sendApp_cases app s <;> simp only [ldrSend, h]
  · exact {}
  · exact { fatal := by simp [sendApp_raises h] }
  · exact {}

theorem flwReply_outbound (app : Bytes) : OutboundLeaves s (flwReply app s) := by
  obtain ⟨alloc, ⟨e, h⟩ | ⟨r, h⟩ | ⟨f, tag, -, -, h⟩⟩ := sendApp_cases app s <;> simp only [flwReply, h]
  · exact {}
  · exact { fatal := by simp [sendApp_raises h] }
  · exact {}

theorem ldrOnApp_outbound (app : Bytes) : OutboundLeaves s (ldrOnApp app s) := by
  unfold ldrOnApp
  split
  · exact {}
  split
  · exact {}
  · exact inbound_outbound s _
  · exact {}
  · exact {}

theorem flwOnApp_outbound (app : Bytes) : OutboundLeaves s (flwOnApp app s) := by
  unfold flwOnApp
  split
  · exact {}
  split
  · exact inbound_outbound s _
  · split <;> exact {}
  · exact {}
  · exact {}

theorem onApp_outbound (app : Bytes) : OutboundLeaves s (onApp app s) := by
  unfold onApp
  split
  · exact ldrOnApp_outbound s app
  · exact flwOnApp_outbound s app

theorem ldrBody_outbound : OutboundLeaves s (ldrBody s) := by
  unfold ldrBody
  split
  · exact {}
  · exact seqStart_outbound s _
  · exact seqStart_outbound s _
  · exact {}

theorem sessionStart_outbound : OutboundLeaves s (sessionStart s) := by
  unfold sessionStart
  split
  · unfold ldrStart
    split
    · exact {}
    · exact ldrBody_outbound s
  · unfold flwStart
    split
    · exact {}
    · exact seqStart_outbound s _

theorem initStart_outbound : OutboundLeaves s (initStart s) := by
  unfold initStart
  split <;> exact {}

theorem initStep_outbound (p : InitPoint) : OutboundLeaves s (initStep p s) := by
  cases p <;> unfold initStep
  case lineLow | armLow | lineHigh | armPoll | disarm | rearm => exact {}
  case checkLow | checkPoll => dsimp only; split <;> exact {}
  case takeInd =>
    obtain ⟨f, ind, h⟩ := receiveFrame_answer s
    simp only [h]
    cases f <;> exact {}

theorem ldrStep_outbound (p : LdrPoint) : OutboundLeaves s (ldrStep p s) := by
  cases p <;> unfold ldrStep
  case armFail | armPing => exact {}
  case checkBackoff | checkPing => dsimp only; split <;> exact {}
  case disarmBackoff => exact OutboundLeaves.trans {} (ldrBody_outbound _)
  case takeOut =>
    dsimp only
    split
    · exact OutboundLeaves.trans {} (ldrSend_outbound _ _ _)
    · split
      · exact ldrSend_outbound s _ _
      · exact {}
  case takeInd =>
    obtain ⟨f, ind, h⟩ := receiveFrame_answer s
    simp only [h]
    cases f
    · exact {}
    · exact OutboundLeaves.trans {} (ldrOnApp_outbound _ _)
  case putIn d =>
    obtain ⟨usbIn, h⟩ := enqueueUsbIn_answer d s
    simp only [h]
    exact {}

theorem flwStep_outbound (p : FlwPoint) : OutboundLeaves s (flwStep p s) := by
  cases p <;> unfold flwStep
  case takeInd =>
    obtain ⟨f, ind, h⟩ := receiveFrame_answer s
    simp only [h]
    cases f
    · exact {}
    · exact OutboundLeaves.trans {} (flwOnApp_outbound _ _)
  case putIn d =>
    obtain ⟨usbIn, h⟩ := enqueueUsbIn_answer d s
    simp only [h]
    exact {}
  case takeOut =>
    dsimp only
    split
    · exact OutboundLeaves.trans {} (flwReply_outbound _ _)
    · exact flwReply_outbound s _

end

/-- SEQ_POLL clears tx_done in its first step, and fills q_tx in its release (45_sequencer.md R232, R234). -/
theorem seqStep_outbound {k : Caller} {p : SeqPoint} {s t : State} (hclear : p ≠ .clearDone) (hrelease : p ≠ .release)
    (h : seqStep k p s = .next t) : OutboundLeaves s t := by
  cases p <;> unfold seqStep at h
  case clearDone => exact absurd rfl hclear
  case release => exact absurd rfl hrelease
  case lineLow | armStatus | enableIrq | armAck => cases h; exact {}
  case setStatusWait | signalActive | setAckWait | armCnf =>
    cases h
    exact OutboundLeaves.trans {} (seqReturn_outbound _ k _)
  case busyLine | noStatusLine => cases h; exact OutboundLeaves.trans {} (seqFinish_outbound _ k _)
  case drain | takeStatus => dsimp only at h; split at h <;> cases h <;> exact {}
  case checkStatus | readDone =>
    cases h
    split
    · exact {}
    · exact seqReturn_outbound s k _
  case takeAck =>
    dsimp only at h
    split at h <;> cases h
    · exact OutboundLeaves.trans {} (seqFinish_outbound _ k _)
    · exact {}
    · exact {}
  case takeCnf =>
    dsimp only at h
    split at h <;> cases h
    · exact OutboundLeaves.trans {} (seqFinish_outbound _ k _)
    · exact {}
  case checkAck | checkCnf =>
    cases h
    split
    · exact seqFinish_outbound s k _
    · exact seqReturn_outbound s k _

/-! ## The invariant -/

/-- Where a request frame may be in flight: released, and not yet seen sent. -/
def Releasing (s : State) : Prop :=
  (s.seq.state = .waitTxFrameDone ∧ pastReadDone s.task = false) ∨ justReleased s.task = true

/-- Where tx_done has been cleared for a frame still to be released. -/
def DoneCleared (s : State) : Prop :=
  pastClearDone s.task = true ∨ (s.seq.state = .waitStatusFrame ∧ justReleased s.task = false)

theorem oneFrameInFlight_iff (s : State) : OneFrameInFlight s ↔ framesInFlight s ≤ 1 ∧
    (framesInFlight s = 1 → s.sig.txDone = false ∧ Releasing s) ∧ (DoneCleared s → s.sig.txDone = false) := Iff.rfl

/-- What of a poll in progress the invariant reads. -/
def pollProgress (p : Option TaskPoint) : Bool × Bool × Bool := (pastClearDone p, justReleased p, pastReadDone p)

theorem NoPoll.progress {s : State} (h : NoPoll s) : pollProgress s.task = (false, false, false) := by
  unfold NoPoll at h
  rcases hp : s.task with _ | _ | ⟨k, p⟩ | _ | _
  case some.seq => exact absurd hp (h k p)
  all_goals rfl

theorem seqEntry_progress (k : Caller) (st : SeqState) : pollProgress (some (.seq k (seqEntry st))) = (false, false, false) := by
  cases st <;> rfl

theorem onward_progress {p p' : SeqPoint} (k : Caller) (h : p' ∈ onward p) (hclear : p ≠ .clearDone) (hread : p ≠ .readDone) :
    pollProgress (some (.seq k p')) = pollProgress (some (.seq k p)) := by
  cases p <;> simp only [onward, List.mem_cons, List.not_mem_nil, or_false] at h
  case clearDone => exact absurd rfl hclear
  case readDone => exact absurd rfl hread
  case drain => rcases h with rfl | rfl <;> rfl
  case takeStatus => rcases h with rfl | rfl | rfl <;> rfl
  case takeAck => rcases h with rfl | rfl <;> rfl
  all_goals subst h; rfl

/-- A stage ends after the release in WaitTxFrameDone, and it begins WaitStatusFrame with tx_done cleared. -/
theorem nextStage_progress {p : SeqPoint} {st : SeqState} (k : Caller) (h : nextStage p = some st) :
    (justReleased (some (.seq k p)) = true → st = .waitTxFrameDone) ∧
    (st = .waitStatusFrame → pastClearDone (some (.seq k p)) = true) := by
  cases p <;> cases h <;> simp [justReleased, pastClearDone]

section
variable {s t : State}

theorem NoPoll.releasing_iff (h : NoPoll s) : Releasing s ↔ s.seq.state = .waitTxFrameDone := by
  obtain ⟨-, hreleased, hread⟩ := by simpa [pollProgress] using h.progress
  simp [Releasing, hreleased, hread]

theorem NoPoll.doneCleared_iff (h : NoPoll s) : DoneCleared s ↔ s.seq.state = .waitStatusFrame := by
  obtain ⟨hclear, hreleased, -⟩ := by simpa [pollProgress] using h.progress
  simp [DoneCleared, hclear, hreleased]

/-- A move that leaves frames and tx_done, and stays where a frame may be in flight. -/
theorem OneFrameInFlight.mono (hs : OneFrameInFlight s) (frames : framesInFlight t = framesInFlight s)
    (done : t.sig.txDone = s.sig.txDone) (releasing : Releasing s → Releasing t) (cleared : DoneCleared t → DoneCleared s) :
    OneFrameInFlight t := by
  obtain ⟨hle, hone, hdown⟩ := (oneFrameInFlight_iff s).mp hs
  rw [oneFrameInFlight_iff, frames, done]
  exact ⟨hle, fun h => ⟨(hone h).1, releasing (hone h).2⟩, hdown ∘ cleared⟩

theorem oneFrameInFlight_of_zero (frames : framesInFlight t = 0) (done : DoneCleared t → t.sig.txDone = false) :
    OneFrameInFlight t := by
  rw [oneFrameInFlight_iff, frames]
  exact ⟨by simp, by simp, done⟩

theorem OneFrameInFlight.eq_zero (hs : OneFrameInFlight s) (h : Releasing s → s.sig.txDone = true) : framesInFlight s = 0 := by
  obtain ⟨hle, hone, -⟩ := hs
  have hne : framesInFlight s ≠ 1 := fun heq => by
    obtain ⟨hdone, hreleasing⟩ := hone heq
    simp [h hreleasing] at hdone
  omega

/-- The statement's claim of a state: the invariant, and no TX_QUEUE_FULL. -/
def OutboundSound (s : State) : Prop := OneFrameInFlight s ∧ s.fatal ≠ some .txQueueFull

theorem OutboundSound.mono (hs : OutboundSound s) (out : OutboundLeaves s t) (tx : t.tx = s.tx)
    (releasing : Releasing s → Releasing t) (cleared : DoneCleared t → DoneCleared s) : OutboundSound t := by
  have hframes : framesInFlight t = framesInFlight s := by rw [framesInFlight, framesInFlight, out.queue, tx]
  exact ⟨hs.1.mono hframes out.done releasing cleared, hs.2 ∘ out.fatal⟩

theorem OutboundSound.same (hs : OutboundSound s) (out : OutboundLeaves s t := by exact {}) (tx : t.tx = s.tx := by rfl)
    (state : t.seq.state = s.seq.state := by rfl) (progress : pollProgress t.task = pollProgress s.task := by rfl) :
    OutboundSound t := by
  obtain ⟨hclear, hreleased, hread⟩ : pastClearDone t.task = pastClearDone s.task ∧
    justReleased t.task = justReleased s.task ∧ pastReadDone t.task = pastReadDone s.task := by simpa [pollProgress] using progress
  exact hs.mono out tx (by simp [Releasing, state, hreleased, hread]) (by simp [DoneCleared, state, hclear, hreleased])

/-! ## SEQ_POLL -/

section
variable {k : Caller} {p : SeqPoint} (htask : s.task = some (.seq k p)) (hseq : SeqCoherent s)
include htask hseq

theorem state_of_standing : s.seq.state = stageOf p := (hseq.2.2 k p htask).2

theorem releasing_of_standing : Releasing s ↔ p = .readDone ∨ justReleased (some (.seq k p)) = true := by
  rw [Releasing, state_of_standing htask hseq, htask]
  cases p <;> simp [stageOf, pastReadDone, justReleased]

theorem doneCleared_of_standing : DoneCleared s ↔
    pastClearDone (some (.seq k p)) = true ∨ (stageOf p = .waitStatusFrame ∧ justReleased (some (.seq k p)) = false) := by
  rw [DoneCleared, state_of_standing htask hseq, htask]

end

/-- A poll that returns to its caller, where its stage ends in WaitTxFrameDone or no frame was in flight. -/
theorem OutboundSound.returns (hs : OutboundSound s) (out : OutboundLeaves s t) (tx : t.tx = s.tx) (hpoll : NoPoll t)
    (releasing : Releasing s → t.seq.state = .waitTxFrameDone) (cleared : t.seq.state = .waitStatusFrame → DoneCleared s) :
    OutboundSound t :=
  hs.mono out tx (hpoll.releasing_iff.mpr ∘ releasing) (cleared ∘ hpoll.doneCleared_iff.mp)

section
variable {k : Caller}

/-- The first step of a poll in TxreqLow clears tx_done, with no frame in flight. -/
theorem clearDone_outboundSound (htask : s.task = some (.seq k .clearDone)) (hseq : SeqCoherent s) (hs : OutboundSound s)
    (h : seqStep k .clearDone s = .next t) : OutboundSound t := by
  cases h
  have hzero : framesInFlight s = 0 := hs.1.eq_zero (by simp [releasing_of_standing htask hseq, justReleased])
  exact ⟨oneFrameInFlight_of_zero hzero fun _ => rfl, hs.2⟩

/-- The release finds q_tx empty and tx_done cleared. -/
theorem release_outboundSound (htask : s.task = some (.seq k .release)) (hseq : SeqCoherent s) (hs : OutboundSound s)
    (h : seqStep k .release s = .next t) : OutboundSound t := by
  have hdone : s.sig.txDone = false := hs.1.2.2 ((doneCleared_of_standing htask hseq).mpr (.inr ⟨rfl, rfl⟩))
  have hzero : framesInFlight s = 0 := hs.1.eq_zero (by simp [releasing_of_standing htask hseq, justReleased])
  obtain ⟨hq, htx⟩ : s.q.tx.length = 0 ∧ s.tx.frame.isSome.toNat = 0 := Nat.add_eq_zero_iff.mp hzero
  cases hf : s.seq.frame with
  | none => simp [seqStep, hf] at h
  | some f =>
    have hroom : s.q.tx.length < Config.capTx := by rw [hq]; decide
    cases h.symm.trans (taskStep_release_room k hf hroom)
    have hone : framesInFlight (standing (.seq k .enableIrq) { s with q.tx := s.q.tx ++ [f], seq.frame := none }) = 1 := by
      change (s.q.tx ++ [f]).length + s.tx.frame.isSome.toNat = 1
      rw [List.length_append, hq, htx, List.length_singleton]
    exact ⟨⟨hone.le, fun _ => ⟨hdone, .inr rfl⟩, fun _ => hdone⟩, hs.2⟩

/-- Until tx_done is seen the poll blocks; once it is seen no frame is in flight. -/
theorem readDone_outboundSound (htask : s.task = some (.seq k .readDone)) (hseq : SeqCoherent s) (hs : OutboundSound s)
    (h : seqStep k .readDone s = .next t) : OutboundSound t := by
  have hstate : s.seq.state = .waitTxFrameDone := state_of_standing htask hseq
  cases hdone : s.sig.txDone with
  | true =>
    cases h.symm.trans (taskStep_readDone_sent k hdone)
    have hzero : framesInFlight s = 0 := hs.1.eq_zero fun _ => hdone
    have hstate' : (standing (.seq k .armAck) s).seq.state = .waitTxFrameDone := hstate
    exact ⟨oneFrameInFlight_of_zero hzero (by simp [DoneCleared, hstate', pastClearDone]), hs.2⟩
  | false =>
    cases h.symm.trans (taskStep_readDone_sending k hdone)
    rw [← seqReturn_eq_pollReturns]
    have hreturn := seqReturn_aside k .wouldBlock s
    exact hs.returns (seqReturn_outbound s k _) hreturn.leaves.tx hreturn.task (by simp [hreturn.seq, hstate])
      (by simp [hreturn.seq, hstate])

/-- Every other step stays where a frame may be in flight, moves on to there, or belongs to a stage without one. -/
theorem SeqMove.keeps_outboundSound {p : SeqPoint} {u : State} (h : SeqMove k p s u t) (htask : s.task = some (.seq k p))
    (hseq : SeqCoherent s) (hs : OutboundSound s) (out : OutboundLeaves s t) (tx : t.tx = s.tx) (hclear : p ≠ .clearDone)
    (hrelease : p ≠ .release) (hread : p ≠ .readDone) : OutboundSound t := by
  have hstate := state_of_standing htask hseq
  have hreleasing := releasing_of_standing htask hseq
  have hcleared := doneCleared_of_standing htask hseq
  cases h with
  | goesOn p' next state => exact hs.same out tx state (by rw [htask]; exact onward_progress k next hclear hread)
  | releases f point => exact absurd point hrelease
  | queueFull point => exact absurd point hrelease
  | waits released same =>
    subst same
    have hreturn := seqReturn_aside k .wouldBlock u
    exact hs.returns out tx hreturn.task (by simp [hreleasing, hread, released]) fun hst =>
      hcleared.mpr (.inr ⟨by rw [← hstate, ← hreturn.seq, hst], released⟩)
  | advances state =>
    have hreturn := seqReturn_aside k .wouldBlock u
    obtain ⟨hreleased, hpast⟩ := nextStage_progress k state
    rw [← hreturn.seq] at hreleased hpast
    exact hs.returns out tx hreturn.task (fun hr => hreleased ((hreleasing.mp hr).resolve_left hread)) fun hst =>
      hcleared.mpr (.inl (hpast hst))
  | finishes r result released =>
    have hreturn := seqReturn_aside k r (seqToIdle u)
    have hidle : (seqFinish k r u).seq.state = .txreqLow := by rw [seqFinish, hreturn.seq]; rfl
    exact hs.returns out tx hreturn.task (by simp [hreleasing, hread, released]) (by simp [hidle])

theorem seqStep_outboundSound {p : SeqPoint} (htask : s.task = some (.seq k p)) (hseq : SeqCoherent s) (hs : OutboundSound s)
    (h : seqStep k p s = .next t) : OutboundSound t := by
  by_cases hclear : p = .clearDone
  · subst hclear; exact clearDone_outboundSound htask hseq hs h
  by_cases hrelease : p = .release
  · subst hrelease; exact release_outboundSound htask hseq hs h
  by_cases hread : p = .readDone
  · subst hread; exact readDone_outboundSound htask hseq hs h
  obtain ⟨u, hmove, hleaves, -⟩ := seqStep_cases h
  exact hmove.keeps_outboundSound htask hseq hs (seqStep_outbound hclear hrelease h) (hleaves.trans hmove.leaves.1).tx hclear
    hrelease hread

end

/-! ## The session and DRV_INIT -/

/-- A move of the session or of DRV_INIT leaves the sequencer's stage, and at most begins a poll in it. -/
theorem SessionMove.keeps_outboundSound (h : SessionMove s t) (hpoll : NoPoll s) (out : OutboundLeaves s t)
    (hs : OutboundSound s) : OutboundSound t := by
  refine hs.same out h.leaves.tx ?state ?progress
  case state =>
    cases h.control with
    | leaves seq | polls _ _ seq => rw [seq]
    | takes f tag idle active seq => rw [seq]
  case progress =>
    rw [hpoll.progress]
    cases h.control with
    | leaves _ task => exact task.progress
    | takes f tag idle active seq task => exact (noPoll_of_none task).progress
    | polls k _ _ task => rw [task]; exact seqEntry_progress k _

theorem taskStep_outboundSound {p : TaskPoint} (htask : s.task = some p) (hseq : SeqCoherent s) (hs : OutboundSound s)
    (h : taskStep p s = .next t) : OutboundSound t := by
  have hpoll (hp : ∀ k q, p ≠ .seq k q) : NoPoll s := by simpa [NoPoll, htask] using hp
  cases p with
  | init p => cases h; exact (initStep_move p s).keeps_outboundSound (hpoll (by simp)) (initStep_outbound s p) hs
  | seq k p => exact seqStep_outboundSound htask hseq hs h
  | ldr p => cases h; exact (ldrStep_move p s).keeps_outboundSound (hpoll (by simp)) (ldrStep_outbound s p) hs
  | flw p => cases h; exact (flwStep_move p s).keeps_outboundSound (hpoll (by simp)) (flwStep_outbound s p) hs

/-! ### Runs of primitive steps -/

/-- What a run of primitive steps keeps: the claim, and the sequencer's invariant that it rests on. -/
def RunSound (s : State) : Prop := SeqCoherent s ∧ OutboundSound s

theorem SessionMove.begins_runSound (h : SessionMove s t) (out : OutboundLeaves s t) (htask : s.task = none) (hs : RunSound s) :
    RunSound t :=
  ⟨h.keeps_seqCoherent (noPoll_of_none htask) hs.1, h.keeps_outboundSound (noPoll_of_none htask) out hs.2⟩

theorem taskStep_keeps_runSound {p : TaskPoint} (htask : s.task = some p) (hs : RunSound s) (h : taskStep p s = .next t) :
    RunSound t :=
  ⟨taskStep_keeps_seqCoherent htask hs.1 h, taskStep_outboundSound htask hs.1 hs.2 h⟩

theorem runTask_outboundSound (n : Nat) (hs : RunSound s) : Yields OutboundSound (runTask n s) := fun t h =>
  (runTask_keeps (P := RunSound) (fun _ _ _ => taskStep_keeps_runSound) n s t hs h).2

theorem runPreemptible_outboundSound (hs : RunSound s) : Yields OutboundSound (runPreemptible s) := by
  unfold runPreemptible
  split
  · exact runTask_outboundSound _ hs
  · exact runTask_outboundSound _ ⟨hs.1.of_eq rfl rfl, hs.2.same⟩

section
variable (hs : RunSound s)
include hs

theorem execSessionPoll_outboundSound : Yields OutboundSound (execSessionPoll s) := by
  refine yields_ifLive fun _ => ?_
  split
  · exact yields_refused _
  · exact runPreemptible_outboundSound hs
  case h_3 htask =>
    split
    · exact runPreemptible_outboundSound ((sessionStart_move s).begins_runSound (sessionStart_outbound s) htask hs)
    · exact yields_refused _

theorem execDrvInit_outboundSound : Yields OutboundSound (execDrvInit s) := by
  refine yields_ifLive fun _ => ?_
  split
  · exact runPreemptible_outboundSound hs
  · exact yields_refused _
  case h_3 htask =>
    split
    · exact runPreemptible_outboundSound ((initStart_move htask).begins_runSound (initStart_outbound s) htask hs)
    · exact yields_refused _

theorem execSeqPoll_outboundSound : Yields OutboundSound (execSeqPoll s) := by
  refine yields_ifLive fun _ => ?_
  split
  · exact yields_next hs.2.same
  case h_2 htask =>
    exact runTask_outboundSound _ ((seqStart_move .direct s).begins_runSound (seqStart_outbound s _) htask hs)

theorem readApp_outboundSound (app : Bytes) : Yields OutboundSound (readApp app s) := by
  refine yields_ifLive fun _ => ?_
  split
  · exact yields_refused _
  case isFalse hreads =>
    have htask : s.task = none := task_of_readsHeaders (by simpa using hreads)
    split
    · exact runTask_outboundSound _ ((onApp_move app s).begins_runSound (onApp_outbound s app) htask hs)
    · exact yields_refused _

end

/-! ## The TX framer -/

theorem txSendStx_frames (s : State) :
    framesInFlight (txSendStx s) = framesInFlight s ∧ (txSendStx s).sig.txDone = s.sig.txDone := by
  cases hf : s.tx.frame with
  | some f => rw [txSendStx_held hf]; simp [framesInFlight, hf, txStart]
  | none =>
    cases hq : s.q.tx with
    | nil => rw [txSendStx_idle hf hq]; simp [framesInFlight, hf, hq]
    | cons f rest => rw [txSendStx_queued hf hq]; simp [framesInFlight, hf, hq, txStart]

/-- TX_READY leaves the count of frames in flight and tx_done, or it finishes a frame (43_tx_framer.md R188). -/
theorem txReady_frames (h : txReady s = .next t) :
    (framesInFlight t = framesInFlight s ∧ t.sig.txDone = s.sig.txDone) ∨ (s.tx.state = .txDone ∧ t = txFinish s) := by
  unfold txReady at h
  split at h
  case isTrue => cases h; exact .inl ⟨rfl, rfl⟩
  split at h
  case h_1 => cases h; exact .inl ⟨rfl, rfl⟩
  split at h
  case h_1 => cases h; exact .inl (txSendStx_frames s)
  case h_4 =>
    obtain ⟨f, -, h⟩ := withTxFrame_next h
    unfold txSendData at h
    split at h <;> cases h
    exact .inl ⟨rfl, rfl⟩
  case h_7 hst => cases h; exact .inr ⟨hst, rfl⟩
  all_goals obtain ⟨f, -, h⟩ := withTxFrame_next h; cases h; exact .inl ⟨rfl, rfl⟩

/-- No poll has cleared tx_done for a next frame where one may be in flight. -/
theorem Releasing.not_doneCleared (h : Releasing s) (hseq : SeqCoherent s) : ¬ DoneCleared s := by
  rcases hp : s.task with _ | _ | ⟨k, p⟩ | _ | _
  case some.seq =>
    rw [doneCleared_of_standing hp hseq]
    rcases (releasing_of_standing hp hseq).mp h with rfl | hreleased
    · simp [pastClearDone, stageOf]
    · cases p <;> simp_all [justReleased, pastClearDone]
  all_goals
    have hpoll : NoPoll s := by simp [NoPoll, hp]
    rw [hpoll.doneCleared_iff, hpoll.releasing_iff.mp h]
    simp

/-- The TX framer finishes the frame that was in flight, and only then sets tx_done. -/
theorem txFinish_outboundSound (hst : s.tx.state = .txDone) (htx : TxCoherent s.tx) (hseq : SeqCoherent s)
    (hs : OutboundSound s) : OutboundSound (txFinish s) := by
  have hheld : s.tx.frame.isSome = true := by simpa [TxCoherent, hst] using htx
  obtain ⟨⟨hle, hone, -⟩, hfatal⟩ := hs
  have hframes : framesInFlight s = s.q.tx.length + 1 := by rw [framesInFlight, hheld]; rfl
  have hzero : framesInFlight (txFinish s) = 0 := by
    change s.q.tx.length + 0 = 0
    omega
  obtain ⟨-, hreleasing : Releasing s⟩ := hone (by omega)
  exact ⟨oneFrameInFlight_of_zero hzero fun hcleared => absurd hcleared (hreleasing.not_doneCleared hseq), hfatal⟩

theorem txReady_outboundSound (htx : TxCoherent s.tx) (hseq : SeqCoherent s) (hs : OutboundSound s) :
    Yields OutboundSound (txReady s) := by
  intro t h
  rcases txReady_frames h with ⟨hframes, hdone⟩ | ⟨hst, rfl⟩
  · have hl := txReady_leaves h
    have hreleasing : Releasing t ↔ Releasing s := by rw [Releasing, Releasing, hl.seq, hl.task]
    have hcleared : DoneCleared t ↔ DoneCleared s := by rw [DoneCleared, DoneCleared, hl.seq, hl.task]
    exact ⟨hs.1.mono hframes hdone hreleasing.mpr hcleared.mp, hl.fatal ▸ hs.2⟩
  · exact txFinish_outboundSound hst htx hseq hs

/-! ## Reception and the calls -/

theorem rxByte_outboundSound (b : Byte) (s : State) (hs : OutboundSound s) : OutboundSound (rxByte b s) := by
  have hl := rxByte_leaves b s
  exact hs.same (rxByte_outbound s b) hl.tx (by rw [hl.seq]) (by rw [hl.task])

section
variable (hs : OutboundSound s)
include hs

theorem arrive_outboundSound (bs : Bytes) : Yields OutboundSound (arrive bs s) :=
  yields_ifLive fun _ => yields_next (deliver_keeps rxByte_outboundSound bs s hs)

theorem arriveFrame_outboundSound (c : Byte) (stx : Stx) (p : Bytes) : Yields OutboundSound (arriveFrame c stx p s) := by
  unfold arriveFrame
  split
  · exact arrive_outboundSound hs _
  · exact yields_refused _

theorem execFrame_outboundSound (stx : Stx) (command : Byte) (payload : Bytes) (lsb msb : Byte) :
    Yields OutboundSound (execFrame stx command payload lsb msb s) := by
  unfold execFrame
  split
  · exact arrive_outboundSound hs _
  · exact yields_refused _

theorem builder_outboundSound (fits : Bool) (command : Byte) (p : Bytes) (tag : SenderTag) :
    Yields OutboundSound (ifLive s (.next (buildResult (buildFrame fits command p tag s)))) := by
  obtain ⟨answer, alloc, h, -⟩ := buildFrame_answer fits command p tag s
  refine yields_ifLive fun _ => yields_next ?_
  rw [h]
  cases answer with
  | ok | err => exact hs.same { fatal := id }
  | fatal r => exact hs.same { fatal := by simp [buildResult, buildFrame_raises h] }

theorem execDrvData_outboundSound (buf : Bytes) : Yields OutboundSound (execDrvData buf s) := by
  unfold execDrvData buildData
  split <;> exact builder_outboundSound hs _ _ _ _

theorem execDrvReceiveFrame_outboundSound : Yields OutboundSound (execDrvReceiveFrame s) := by
  obtain ⟨f, ind, h⟩ := receiveFrame_answer s
  refine yields_ifLive fun _ => yields_next ?_
  rw [h]
  split <;> exact hs.same

theorem execFrameNew_outboundSound (start length command : Byte) (payload : Bytes) :
    Yields OutboundSound (execFrameNew start length command payload s) := by
  refine yields_ifLive fun _ => yields_next ?_
  split <;> exact hs.same

theorem execSeqEnqueue_outboundSound (f : Frame) (tag : SenderTag) : Yields OutboundSound (execSeqEnqueue f tag s) := by
  intro t h
  obtain ⟨-, -, ⟨-, rfl⟩ | ⟨-, -, -, rfl⟩ | ⟨-, -, rfl⟩⟩ := execSeqEnqueue_next h <;> exact hs.same

theorem execHostOutPush_outboundSound (buf : Bytes) : Yields OutboundSound (execHostOutPush buf s) := by
  refine yields_ifLive fun _ => ?_
  split
  · refine yields_next ?_
    rcases enqueueUsbOut_cases buf s with ⟨_, h⟩ | ⟨_, h⟩ <;> rw [h] <;> exact hs.same
  · exact yields_refused _

theorem execHostInPop_outboundSound : Yields OutboundSound (execHostInPop s) := by
  refine yields_ifLive fun _ => yields_next ?_
  split <;> exact hs.same

end

theorem setTimeoutReg_outboundSound (id : TimeoutId) (v : Timeout) (hs : OutboundSound s) :
    OutboundSound (setTimeoutReg id v s) := by
  cases id <;> exact hs.same

end

/-! ## Every instruction -/

theorem exec_outboundSound (i : Instr) {s : State} (htx : TxCoherent s.tx) (hseq : SeqCoherent s) (hs : OutboundSound s) :
    Yields OutboundSound (exec i s) := by
  cases i
  case rxByte b => exact yields_ifLive fun _ => yields_next (rxByte_outboundSound b s hs)
  case frame => exact execFrame_outboundSound hs _ _ _ _ _
  case stxRequest | stxIndication | ack | nak | stxStatus | statusSequence | desync => exact arrive_outboundSound hs _
  case resetReq | resetCnf | resetInd | resetErr | mibWriteReq | mibWriteCnf | mibWriteUnused2 | mibWriteErr | mibEraseReq |
      mibEraseCnf | mibEraseUnused2 | mibEraseErr | pingReq | pingCnf | pingUnused2 | pingErr | phyReq | phyCnf | phyInd |
      phyErr | dlReq | dlCnf | dlInd | dlErr | commandReserved => exact arriveFrame_outboundSound hs _ _ _
  case txReady =>
    refine yields_ifLive fun _ => ?_
    split
    · exact txReady_outboundSound htx hseq hs
    · exact yields_refused _
  case sessionPoll => exact execSessionPoll_outboundSound ⟨hseq, hs⟩
  case drvInit => exact execDrvInit_outboundSound ⟨hseq, hs⟩
  case seqPoll => exact execSeqPoll_outboundSound ⟨hseq, hs⟩
  case hdrIdle | hdrData | hdrPing => exact readApp_outboundSound ⟨hseq, hs⟩ _
  case hdrReserved header _ => cases header <;> exact readApp_outboundSound ⟨hseq, hs⟩ _
  case reset => exact yields_next ⟨atReset_oneFrameInFlight _ _ _, by simp [resetEngine, State.atReset]⟩
  case seqEnqueue f tag => exact execSeqEnqueue_outboundSound hs f tag
  case drvResetReq | drvMibWrite | drvMibErase | drvPing | drvPhyData | drvDlData => exact builder_outboundSound hs _ _ _ _
  case drvData buf => exact execDrvData_outboundSound hs buf
  case drvReceiveFrame => exact execDrvReceiveFrame_outboundSound hs
  case checksum | frameChecksum | frameSerialise => exact yields_ifLive fun _ => yields_next hs.same
  case frameNew => exact execFrameNew_outboundSound hs _ _ _ _
  case hostOutPush buf => exact execHostOutPush_outboundSound hs buf
  case hostInPop => exact execHostInPop_outboundSound hs
  case timeoutSet t _ | timeoutDisarm t =>
    refine yields_ifLive fun _ => ?_
    split
    · exact yields_next (setTimeoutReg_outboundSound t _ hs)
    · exact yields_refused _
  case drvSetReady | timeoutExpired =>
    refine yields_ifLive fun _ => ?_
    split
    · exact yields_next hs.same
    · exact yields_refused _
  case uartShift | clockAdvance =>
    refine yields_ifLive fun _ => ?_
    split
    · exact yields_refused _
    · exact yields_next hs.same

/-- Settles O59: SEQ_POLL releases a frame only where tx_done has been cleared and none is in flight, and sees tx_done only after the TX
framer has finished it; nothing else writes q_tx, tx_done or the frame in the TX framer. -/
theorem oneFrameInFlightKept : Obligations.OneFrameInFlightKept := by
  intro s t hseq htx hone hfatal h
  have hs : OutboundSound s := ⟨hone, hfatal⟩
  rcases step_next_cases h with rfl | ⟨i, trace, -, hexec⟩
  · exact hs
  · exact exec_outboundSound i (s := { s with env.trace := trace }) htx (hseq.of_eq rfl rfl) hs.same t hexec

end Sys2Proof.Machine
end

section
/-! PROOFS. The session sends exactly while the sequencer is busy (46_session.md R268, R273), O57: the fatal reasons each part of the
engine can raise; what a primitive step of SEQ_POLL leaves of the session, whoever called it; the invariant at each primitive step of the
Leader and of the Follower; then every instruction. -/
namespace Sys2Proof.Machine

/-! ## The two fatal reasons that the invariant rules out -/

/-- The sequencer called in a state that R268 and R273 rule out (60_exceptions.md R307, F6 and F7). -/
def sequencerMisused : FatalReason → Bool
  | .seqEnqueueBusy | .seqPollInactive => true
  | _ => false

/-- Nothing is raised, or a reason that is none of the two. -/
def FaultsAside (s t : State) : Prop := t.fatal = s.fatal ∨ ∃ r, t.fatal = some r ∧ sequencerMisused r = false

theorem FaultsAside.trans {s u t : State} (h : FaultsAside s u) (g : FaultsAside u t) : FaultsAside s t := by
  rcases g with g | g
  · rcases h with h | ⟨r, h, hr⟩
    · exact .inl (g.trans h)
    · exact .inr ⟨r, g.trans h, hr⟩
  · exact .inr g

/-! ### Reception -/

section
variable (s : State)

theorem enqueueInd_faults (f : Frame) : FaultsAside s (enqueueInd f s) := by
  rcases enqueueInd_cases f s with ⟨_, h⟩ | ⟨_, h⟩ <;> rw [h]
  · exact .inl rfl
  · exact .inr ⟨_, rfl, rfl⟩

theorem enqueueCnf_faults (f : Frame) : FaultsAside s (enqueueCnf f s) := by
  rcases enqueueCnf_cases f s with ⟨_, h⟩ | ⟨_, h⟩ <;> rw [h]
  · exact .inl rfl
  · exact .inr ⟨_, rfl, rfl⟩

theorem enqueueStatus_faults (b : Byte) : FaultsAside s (enqueueStatus b s) := by
  rcases enqueueStatus_cases b s with ⟨_, h⟩ | ⟨_, h⟩ <;> rw [h]
  · exact .inl rfl
  · exact .inr ⟨_, rfl, rfl⟩

theorem enqueueAck_faults (r : Reply) : FaultsAside s (enqueueAck r s) := by
  rcases enqueueAck_cases r s with ⟨_, h⟩ | ⟨_, h⟩ <;> rw [h]
  · exact .inl rfl
  · exact .inr ⟨_, rfl, rfl⟩

theorem route_faults (f : Frame) : FaultsAside s (route f s) := by
  unfold route
  repeat' split
  · exact enqueueInd_faults s f
  · exact .inl rfl
  · exact enqueueCnf_faults s f
  · exact enqueueCnf_faults s f

theorem csumFail_faults : FaultsAside s (csumFail s) := by
  unfold csumFail
  split <;> exact .inl rfl

theorem rxReply_faults (r : Reply) : FaultsAside s (rxReply r s) := by
  have hqueued := enqueueAck_faults s r
  unfold rxReply
  split
  · dsimp only
    split
    · exact hqueued
    · exact hqueued.trans (.inl rfl)
  · split <;> exact .inl rfl

theorem rxFrameStart_faults (b : Byte) : FaultsAside s (rxFrameStart b s) := by
  obtain ⟨ok, alloc, h⟩ := drawAlloc_answer s
  unfold rxFrameStart
  rw [h]
  cases ok
  · exact .inr ⟨_, rfl, rfl⟩
  · exact .inl rfl

theorem rxFirstByte_faults (b : Byte) : FaultsAside s (rxFirstByte b s) := by
  unfold rxFirstByte
  split
  · exact rxReply_faults s _
  · unfold rxStatusMark
    split <;> exact .inl rfl
  · exact rxFrameStart_faults s b
  · exact .inl rfl

theorem rxStatusValue_faults (b : Byte) : FaultsAside s (rxStatusValue b s) := by
  have hqueued := enqueueStatus_faults s b
  unfold rxStatusValue
  dsimp only
  split
  · exact hqueued
  · exact hqueued.trans (.inl rfl)

theorem rxRearm_faults : FaultsAside s (rxRearm s) := by
  unfold rxRearm
  split <;> exact .inl rfl

theorem rxChecksumMsb_faults (b : Byte) : FaultsAside s (rxChecksumMsb b s) := by
  have hclosed : FaultsAside s (frameClosed s) := .inl rfl
  have hroute := hclosed.trans (route_faults (frameClosed s) (rxFrame s b))
  rcases rxChecksumMsb_cases b s with h | h | h <;> rw [h]
  · exact hroute
  · exact hroute.trans (.inl rfl)
  · exact hclosed.trans (csumFail_faults _)

theorem rxDispatch_faults (b : Byte) : FaultsAside s (rxDispatch b s) := by
  unfold rxDispatch
  split
  case h_1 => exact rxFirstByte_faults s b
  case h_2 => exact rxStatusValue_faults s b
  case h_7 => exact rxChecksumMsb_faults s b
  all_goals exact FaultsAside.trans (.inl rfl) (rxRearm_faults _)

theorem rxByte_faults (b : Byte) : FaultsAside s (rxByte b s) := by
  have hexpire : FaultsAside s (rxExpire s) := by
    unfold rxExpire
    split <;> exact .inl rfl
  exact hexpire.trans (rxDispatch_faults _ b)

end

/-! ### SEND_APP -/

section
variable {s t : State} {r : FatalReason}

/-- A builder's own fatal reasons: the allocation and the frame (44_driver.md, opening). -/
theorem buildFrame_reason {fits : Bool} {command : Byte} {p : Bytes} {tag : SenderTag}
    (h : buildFrame fits command p tag s = (.fatal r, t)) : sequencerMisused r = false := by
  rcases buildFrame_cases fits command p tag s with ⟨_, he⟩ | ⟨_, _, he⟩ | ⟨_, _, _, _, he⟩ | ⟨_, _, _, he⟩ <;>
    rw [he] at h <;> cases h <;> rfl

/-- An idle sequencer takes what SEND_APP builds (46_session.md R267). -/
theorem sendApp_reason {app : Bytes} (hidle : seqIdle s = true) (h : sendApp app s = .fatal r t) :
    sequencerMisused r = false := by
  obtain ⟨answer, alloc, hbuilt, -⟩ := buildData_answer app s
  have hidle' : seqIdle { s with env.alloc := alloc } = true := hidle
  unfold sendApp at h
  rw [hbuilt] at h
  cases answer with
  | err e => cases h
  | fatal r' =>
    cases h
    unfold buildData at hbuilt
    split at hbuilt <;> exact buildFrame_reason hbuilt
  | ok f tag => simp [hidle'] at h

end

/-! ## A primitive step of SEQ_POLL, whoever called it -/

/-- What SEQ_POLL itself never writes: the session's registers, the fatal state and the result. -/
def besidePoll (s : State) : Build × LdrRegs × FlwState × Option FatalReason × Result :=
  (s.build, s.ldr, s.flw, s.fatal, s.result)

/-- What a primitive step of SEQ_POLL does, as a function of the caller: it goes on, it raises TX_QUEUE_FULL, or it returns, with
WouldBlock while the request stays active, or with the result and the sequencer idle (45_sequencer.md R231-R239). -/
inductive PollStep (s : State) : (Caller → Out) → Prop
  | guard (r : Fault) : PollStep s fun _ => .fault r
  | goesOn (p : SeqPoint) (u : State) (leaves : besidePoll u = besidePoll s) : PollStep s fun k => .next (goto (.seq k p) u)
  | queueFull (u : State) (leaves : besidePoll u = besidePoll s) : PollStep s fun _ => .next (raiseInTask .txQueueFull u)
  | waits (u : State) (leaves : besidePoll u = besidePoll s) (tag : u.seq.tag = s.seq.tag) :
      PollStep s fun k => .next (seqReturn k .wouldBlock u)
  | finishes (r : PollResult) (u : State) (result : r ≠ .wouldBlock) (leaves : besidePoll u = besidePoll s) (tag : u.seq.tag = .inactive) :
      PollStep s fun k => .next (seqReturn k r u)

theorem seqStep_pollStep (p : SeqPoint) (s : State) : PollStep s fun k => seqStep k p s := by
  cases p
  case clearDone | lineLow | armStatus | enableIrq | armAck => exact .goesOn _ _ rfl
  case setStatusWait | signalActive | setAckWait | armCnf => exact .waits _ rfl rfl
  case busyLine | noStatusLine => exact .finishes _ _ (by simp) rfl rfl
  case drain | takeStatus =>
    cases hq : dequeue s.q.status <;> simp only [seqStep, hq] <;> exact .goesOn _ _ rfl
  case checkStatus =>
    by_cases h : expired s s.seq.tmoStatus = true <;> simp only [seqStep, h]
    · exact .goesOn _ _ rfl
    · exact .waits _ rfl rfl
  case release =>
    cases hf : s.seq.frame with
    | none => simp only [seqStep, hf]; exact .guard _
    | some f =>
      cases hq : enqueue Config.capTx s.q.tx f <;> simp only [seqStep, hf, hq]
      · exact .queueFull _ rfl
      · exact .goesOn _ _ rfl
  case readDone =>
    by_cases h : s.sig.txDone = true <;> simp only [seqStep, h]
    · exact .goesOn _ _ rfl
    · exact .waits _ rfl rfl
  case takeAck =>
    rcases hq : dequeue s.q.ack with _ | ⟨_ | _, rest⟩ <;> simp only [seqStep, hq]
    · exact .goesOn _ _ rfl
    · exact .goesOn _ _ rfl
    · exact .finishes _ _ (by simp) rfl rfl
  case takeCnf =>
    rcases hq : dequeue s.q.cnf with _ | ⟨c, rest⟩ <;> simp only [seqStep, hq]
    · exact .goesOn _ _ rfl
    · exact .finishes _ _ (confirmation_ne_wouldBlock _ _ _) rfl rfl
  case checkAck =>
    by_cases h : expired s s.seq.tmoAck = true <;> simp only [seqStep, h]
    · exact .finishes _ _ (by simp) rfl rfl
    · exact .waits _ rfl rfl
  case checkCnf =>
    by_cases h : expired s s.seq.tmoCnf = true <;> simp only [seqStep, h]
    · exact .finishes _ _ (by simp) rfl rfl
    · exact .waits _ rfl rfl

/-- The point an event stands at is overwritten by the step it takes. -/
theorem seqStep_standing (k : Caller) (p : SeqPoint) (q : TaskPoint) (s : State) :
    seqStep k p (standing q s) = seqStep k p s := by
  cases p <;> cases k <;> rfl

/-! ## The invariant -/

/-- The session is sending (46_session.md R268, R273). -/
def Sends (s : State) : Prop :=
  match s.build.role with
  | .leader => s.ldr.state = .sendData ∨ s.ldr.state = .sendPing
  | .follower => s.flw = .send

/-- No SESSION_POLL is in progress. -/
def atRest : Option TaskPoint → Bool
  | none | some (.init _) => true
  | _ => false

/-- Which caller polls in which state of the session (46_session.md R262, R263, R272). -/
inductive Polls (s : State) : Caller → Prop
  | ldrSendData (role : s.build.role = .leader) (state : s.ldr.state = .sendData) : Polls s .ldrSendData
  | ldrSendPing (role : s.build.role = .leader) (state : s.ldr.state = .sendPing) : Polls s .ldrSendPing
  | flwSend (role : s.build.role = .follower) (state : s.flw = .send) : Polls s .flwSend

/-- What holds where a SESSION_POLL in progress stands, point by point. -/
inductive Stands (s : State) : TaskPoint → Prop
  | checkBackoff (role : s.build.role = .leader) (sends : Sends s ↔ s.seq.tag ≠ .inactive) : Stands s (.ldr .checkBackoff)
  | disarmBackoff (role : s.build.role = .leader) (sends : Sends s ↔ s.seq.tag ≠ .inactive) : Stands s (.ldr .disarmBackoff)
  | takeOut (role : s.build.role = .leader) (state : s.ldr.state = .dispatch) (idle : s.seq.tag = .inactive) :
      Stands s (.ldr .takeOut)
  | armFail (role : s.build.role = .leader) (idle : s.seq.tag = .inactive) : Stands s (.ldr .armFail)
  | armPing (role : s.build.role = .leader) (idle : s.seq.tag = .inactive) : Stands s (.ldr .armPing)
  | checkPing (role : s.build.role = .leader) (state : s.ldr.state = .waitPing) (idle : s.seq.tag = .inactive) :
      Stands s (.ldr .checkPing)
  | takeInd (role : s.build.role = .leader) (state : s.ldr.state = .waitPing) (idle : s.seq.tag = .inactive) :
      Stands s (.ldr .takeInd)
  | putIn (d : Bytes) (role : s.build.role = .leader) (state : s.ldr.state = .waitPing) (idle : s.seq.tag = .inactive) :
      Stands s (.ldr (.putIn d))
  | flw (p : FlwPoint) (role : s.build.role = .follower) (state : s.flw = .wait) (idle : s.seq.tag = .inactive) :
      Stands s (.flw p)
  | seq (k : Caller) (p : SeqPoint) (polls : Polls s k) : Stands s (.seq k p)

/-- The statement's claim of a state: the invariant, and neither of the two fatal reasons it rules out. -/
def SessionSound (s : State) : Prop :=
  SessionCoherent s ∧ s.fatal ≠ some .seqEnqueueBusy ∧ s.fatal ≠ some .seqPollInactive

section
variable {s t : State}

theorem sends_leader (role : s.build.role = .leader) : Sends s ↔ s.ldr.state = .sendData ∨ s.ldr.state = .sendPing := by
  rw [Sends, role]

theorem sends_follower (role : s.build.role = .follower) : Sends s ↔ s.flw = .send := by rw [Sends, role]

/-- Between two events the invariant is R268 and R273 as they are written. -/
theorem sessionCoherent_iff_sends (h : atRest s.task = true) :
    SessionCoherent s ↔ (s.fatal = none → (Sends s ↔ s.seq.tag ≠ .inactive)) := by
  unfold SessionCoherent Sends
  rcases htask : s.task with _ | _ | _ | _ | _
  case none | some.init => cases s.build.role <;> rfl
  all_goals rw [htask] at h; cases h

theorem Stands.sessionCoherent {p : TaskPoint} (h : Stands s p) (htask : s.task = some p) : SessionCoherent s := by
  intro _
  rw [htask]
  cases h with
  | checkBackoff role sends | disarmBackoff role sends => rw [sends_leader role] at sends; rw [role]; exact sends
  | takeOut role state idle => rw [role]; exact ⟨state, idle⟩
  | checkPing role state idle | takeInd role state idle | putIn d role state idle => rw [role]; exact ⟨state, idle⟩
  | armFail role idle | armPing role idle => rw [role]; exact idle
  | flw p role state idle => rw [role]; exact ⟨state, idle⟩
  | seq k p polls => cases polls with
    | ldrSendData role state | ldrSendPing role state | flwSend role state => rw [role]; exact state

/-- Within an event the invariant is what belongs to the point it stands at. -/
theorem SessionCoherent.stands {p : TaskPoint} (h : SessionCoherent s) (hlive : s.fatal = none) (htask : s.task = some p)
    (hp : atRest (some p) = false) : Stands s p := by
  replace h := h hlive
  rw [htask] at h
  cases hrole : s.build.role <;> rw [hrole] at h
  · have hsends := sends_leader hrole
    rcases p with p | ⟨k, p⟩ | p | p
    · cases hp
    · cases k
      case ldrSendData => exact .seq _ p (.ldrSendData hrole h)
      case ldrSendPing => exact .seq _ p (.ldrSendPing hrole h)
      all_goals exact h.elim
    · cases p
      · exact .checkBackoff hrole (hsends.trans h)
      · exact .disarmBackoff hrole (hsends.trans h)
      · exact .takeOut hrole h.1 h.2
      · exact .armFail hrole h
      · exact .armPing hrole h
      · exact .checkPing hrole h.1 h.2
      · exact .takeInd hrole h.1 h.2
      · exact .putIn _ hrole h.1 h.2
    · exact h.elim
  · rcases p with p | ⟨k, p⟩ | p | p
    · cases hp
    · cases k
      case flwSend => exact .seq _ p (.flwSend hrole h)
      all_goals exact h.elim
    · exact h.elim
    · exact .flw p hrole h.1 h.2

theorem SessionSound.of_live (hlive : s.fatal = none) (h : SessionCoherent s) : SessionSound s := by
  simp [SessionSound, hlive, h]

theorem SessionSound.of_stands {p : TaskPoint} (h : Stands s p) (hlive : s.fatal = none) (htask : s.task = some p) :
    SessionSound s := .of_live hlive (h.sessionCoherent htask)

theorem SessionSound.of_ended (hlive : s.fatal = none) (htask : s.task = none) (h : Sends s ↔ s.seq.tag ≠ .inactive) :
    SessionSound s := .of_live hlive ((sessionCoherent_iff_sends (by rw [htask]; rfl)).mpr fun _ => h)

theorem SessionSound.of_raised {r : FatalReason} (hfatal : s.fatal = some r) (hr : sequencerMisused r = false) :
    SessionSound s := by
  have hbusy : r ≠ .seqEnqueueBusy := by rintro rfl; cases hr
  have hinactive : r ≠ .seqPollInactive := by rintro rfl; cases hr
  simp [SessionSound, SessionCoherent, hfatal, hbusy, hinactive]

/-! ### What leaves it -/

/-- What the invariant reads of a state, beside the point an event stands at. -/
def sessionView (s : State) : Role × LdrState × FlwState × SenderTag := (s.build.role, s.ldr.state, s.flw, s.seq.tag)

theorem sends_of_view (h : sessionView t = sessionView s) : (Sends t ↔ Sends s) ∧ t.seq.tag = s.seq.tag := by
  simp only [sessionView, Prod.mk.injEq] at h
  obtain ⟨hrole, hldr, hflw, htag⟩ := h
  exact ⟨by rw [Sends, Sends, hrole, hldr, hflw], htag⟩

/-- A step that leaves the session, and raises none of the two reasons. -/
theorem SessionSound.same (hs : SessionSound s) (view : sessionView t = sessionView s) (task : t.task = s.task)
    (faults : FaultsAside s t) : SessionSound t := by
  obtain ⟨hcoherent, hbusy, hinactive⟩ := hs
  rcases faults with hfatal | ⟨r, hfatal, hr⟩
  · refine ⟨?_, hfatal ▸ hbusy, hfatal ▸ hinactive⟩
    simp only [sessionView, Prod.mk.injEq] at view
    obtain ⟨hrole, hldr, hflw, htag⟩ := view
    unfold SessionCoherent at *
    rwa [hfatal, hrole, hldr, hflw, htag, task]
  · exact .of_raised hfatal hr

/-- A step from between two SESSION_POLL events to between two. -/
theorem SessionSound.rests (hs : SessionSound s) (view : sessionView t = sessionView s) (fatal : t.fatal = s.fatal)
    (hrest : atRest s.task = true) (hrest' : atRest t.task = true) : SessionSound t := by
  obtain ⟨hcoherent, hbusy, hinactive⟩ := hs
  obtain ⟨hsends, htag⟩ := sends_of_view view
  refine ⟨?_, fatal ▸ hbusy, fatal ▸ hinactive⟩
  rw [sessionCoherent_iff_sends hrest] at hcoherent
  rwa [sessionCoherent_iff_sends hrest', fatal, hsends, htag]

/-! ## SEQ_POLL and its callers -/

theorem Polls.sends {k : Caller} (h : Polls s k) : Sends s := by
  cases h with
  | ldrSendData role state => exact (sends_leader role).mpr (.inl state)
  | ldrSendPing role state => exact (sends_leader role).mpr (.inr state)
  | flwSend role state => exact (sends_follower role).mpr state

theorem Polls.of_besidePoll {k : Caller} (hs : Polls s k) (h : besidePoll t = besidePoll s) : Polls t k := by
  simp only [besidePoll, Prod.mk.injEq] at h
  obtain ⟨hbuild, hldr, hflw, -, -⟩ := h
  cases hs with
  | ldrSendData role state => exact .ldrSendData (hbuild ▸ role) (hldr ▸ state)
  | ldrSendPing role state => exact .ldrSendPing (hbuild ▸ role) (hldr ▸ state)
  | flwSend role state => exact .flwSend (hbuild ▸ role) (hflw ▸ state)

theorem live_of_besidePoll (h : besidePoll t = besidePoll s) (hlive : s.fatal = none) : t.fatal = none := by
  simp only [besidePoll, Prod.mk.injEq] at h
  obtain ⟨-, -, -, hfatal, -⟩ := h
  exact hfatal.trans hlive

theorem Polls.goesOn_sessionSound {k : Caller} (h : Polls s k) (p : SeqPoint) (hlive : s.fatal = none) :
    SessionSound (goto (.seq k p) s) :=
  .of_stands (.seq k p (h.of_besidePoll rfl)) hlive rfl

theorem Polls.begins_sessionSound {k : Caller} (h : Polls s k) (hlive : s.fatal = none) (hactive : s.seq.tag ≠ .inactive) :
    SessionSound (seqStart k s) := by
  rw [seqStart, if_neg hactive]
  exact h.goesOn_sessionSound _ hlive

theorem Polls.waits_sessionSound {k : Caller} (h : Polls s k) (hlive : s.fatal = none) (hactive : s.seq.tag ≠ .inactive) :
    SessionSound (seqReturn k .wouldBlock s) := by
  have hended : SessionSound (endTask s) := .of_ended hlive rfl (iff_of_true h.sends hactive)
  cases h <;> exact hended

/-- Outside its sending states and with the sequencer idle, the session may end its event. -/
theorem ended_sessionSound (hlive : s.fatal = none) (hnot : ¬ Sends s) (hidle : s.seq.tag = .inactive) :
    SessionSound (endTask s) := .of_ended hlive rfl (iff_of_false hnot (not_not.mpr hidle))

theorem not_sends_of_ldr (role : s.build.role = .leader) (h : s.ldr.state = .dispatch ∨ s.ldr.state = .waitPing) :
    ¬ Sends s := by
  rw [sends_leader role]
  rcases h with h | h <;> simp [h]

theorem not_sends_of_flw (role : s.build.role = .follower) (h : s.flw = .wait) : ¬ Sends s := by
  rw [sends_follower role]
  simp [h]

theorem ldrToDispatch_sessionSound (hlive : s.fatal = none) (hrole : s.build.role = .leader) (hidle : s.seq.tag = .inactive) :
    SessionSound (ldrToDispatch s) :=
  ended_sessionSound (s := { s with ldr.state := .dispatch }) hlive (not_sends_of_ldr hrole (.inl rfl)) hidle

theorem flwToWait_sessionSound (hlive : s.fatal = none) (hrole : s.build.role = .follower) (hidle : s.seq.tag = .inactive) :
    SessionSound (endTask { s with flw := .wait }) :=
  ended_sessionSound (s := { s with flw := .wait }) hlive (not_sends_of_flw hrole rfl) hidle

/-- The Leader's reaction to an error (46_session.md R262, R263). -/
theorem leaderFails_sessionSound (hlive : s.fatal = none) (hrole : s.build.role = .leader) (hidle : s.seq.tag = .inactive)
    (e : Error) : SessionSound (if recoverableLeader e then goto (.ldr .armFail) s else raiseInTask .leaderFatalTxError s) := by
  split
  · exact .of_stands (.armFail hrole hidle) hlive rfl
  · exact .of_raised rfl rfl

/-- A result ends the exchange in both: the sequencer is idle, and the session leaves its sending state (46_session.md R262, R263,
R272), or stands where it is about to. -/
theorem Polls.finishes_sessionSound {k : Caller} {r : PollResult} (h : Polls s k) (hr : r ≠ .wouldBlock) (hlive : s.fatal = none)
    (hidle : s.seq.tag = .inactive) : SessionSound (seqReturn k r s) := by
  cases r with
  | wouldBlock => exact absurd rfl hr
  | ready f =>
    cases h with
    | ldrSendData role => exact ldrToDispatch_sessionSound hlive role hidle
    | ldrSendPing role => exact .of_stands (p := .ldr .armPing) (.armPing role hidle) hlive rfl
    | flwSend role => exact flwToWait_sessionSound hlive role hidle
  | fail e =>
    cases h with
    | ldrSendData role | ldrSendPing role => exact leaderFails_sessionSound hlive role hidle e
    | flwSend role =>
      unfold seqReturn
      dsimp only
      split
      · exact flwToWait_sessionSound hlive role hidle
      · exact .of_raised rfl rfl

theorem seqStep_sessionSound {k : Caller} {p : SeqPoint} (hlive : s.fatal = none) (hpolls : Polls s k)
    (hactive : s.seq.tag ≠ .inactive) (h : seqStep k p s = .next t) : SessionSound t := by
  have hstep := seqStep_pollStep p s
  generalize hf : (fun k => seqStep k p s) = f at hstep
  replace h : f k = .next t := hf ▸ h
  cases hstep with
  | guard r => cases h
  | goesOn q u leaves => cases h; exact (hpolls.of_besidePoll leaves).goesOn_sessionSound q (live_of_besidePoll leaves hlive)
  | queueFull u leaves => cases h; exact .of_raised (r := .txQueueFull) rfl rfl
  | waits u leaves tag =>
    cases h
    exact (hpolls.of_besidePoll leaves).waits_sessionSound (live_of_besidePoll leaves hlive) (tag ▸ hactive)
  | finishes r u result leaves tag =>
    cases h
    exact (hpolls.of_besidePoll leaves).finishes_sessionSound result (live_of_besidePoll leaves hlive) tag

/-! ## The Leader -/

theorem seqIdle_of_inactive (hseq : SeqCoherent s) (hidle : s.seq.tag = .inactive) : seqIdle s = true := by
  simp [seqIdle, hidle, (hseq.1 hidle).1]

theorem inactive_of_seqIdle (h : seqIdle s = true) : s.seq.tag = .inactive := by
  rw [seqIdle, Bool.and_eq_true, decide_eq_true_eq, decide_eq_true_eq] at h
  exact h.2

theorem inbound_sessionSound {put : TaskPoint} (hlive : s.fatal = none)
    (hput : ∀ alloc, Stands (goto put { s with env.alloc := alloc }) put) : SessionSound (inbound put s) := by
  obtain ⟨ok, alloc, h⟩ := drawAlloc_answer s
  unfold inbound
  rw [h]
  cases ok
  · exact .of_raised (r := .allocFail) rfl rfl
  · exact .of_stands (hput alloc) hlive rfl

section
variable (hlive : s.fatal = none) (hrole : s.build.role = .leader)
include hlive hrole

theorem ldrBody_sessionSound (hsends : Sends s ↔ s.seq.tag ≠ .inactive) : SessionSound (ldrBody s) := by
  have hidle (h : ¬ Sends s) : s.seq.tag = .inactive := not_not.mp (mt hsends.mpr h)
  unfold ldrBody
  split
  case h_1 hst => exact .of_stands (.takeOut hrole hst (hidle (not_sends_of_ldr hrole (.inl hst)))) hlive rfl
  case h_2 hst =>
    have hpolls := Polls.ldrSendData hrole hst
    exact hpolls.begins_sessionSound hlive (hsends.mp hpolls.sends)
  case h_3 hst =>
    have hpolls := Polls.ldrSendPing hrole hst
    exact hpolls.begins_sessionSound hlive (hsends.mp hpolls.sends)
  case h_4 hst => exact .of_stands (.checkPing hrole hst (hidle (not_sends_of_ldr hrole (.inr hst)))) hlive rfl

theorem ldrSend_sessionSound (app : Bytes) {next : LdrState} (hnext : next = .sendData ∨ next = .sendPing)
    (hidle : seqIdle s = true) : SessionSound (ldrSend app next s) := by
  obtain ⟨alloc, ⟨e, h⟩ | ⟨r, h⟩ | ⟨f, tag, hactive, -, h⟩⟩ := sendApp_cases app s <;> simp only [ldrSend, h]
  · exact .of_stands (.armFail hrole (inactive_of_seqIdle hidle)) hlive rfl
  · exact .of_raised rfl (sendApp_reason hidle h)
  · exact .of_ended hlive rfl (iff_of_true ((sends_leader (by exact hrole)).mpr hnext) hactive)

theorem ldrOnApp_sessionSound (hst : s.ldr.state = .waitPing) (hidle : s.seq.tag = .inactive) (app : Bytes) :
    SessionSound (ldrOnApp app s) := by
  have hdispatch := ldrToDispatch_sessionSound hlive hrole hidle
  unfold ldrOnApp
  split
  · exact hdispatch
  split
  · exact .of_raised (r := .leaderGotPing) rfl rfl
  · exact inbound_sessionSound hlive fun _ => .putIn _ hrole hst hidle
  · exact hdispatch
  · exact hdispatch

end

theorem ldrStep_sessionSound {p : LdrPoint} (hlive : s.fatal = none) (hseq : SeqCoherent s) (hs : Stands s (.ldr p)) :
    SessionSound (ldrStep p s) := by
  unfold ldrStep
  cases hs with
  | checkBackoff role sends =>
    dsimp only
    split
    · exact .of_stands (.disarmBackoff role sends) hlive rfl
    · exact .of_ended hlive rfl sends
  | disarmBackoff role sends => exact ldrBody_sessionSound (s := { s with ldr.failTmo := s.ldr.failTmo.disarm }) hlive role sends
  | takeOut role state idle =>
    have hseqIdle := seqIdle_of_inactive hseq idle
    dsimp only
    split
    next rest _ => exact ldrSend_sessionSound (s := { s with q.usbOut := rest }) hlive role _ (.inl rfl) hseqIdle
    · split
      · exact ldrSend_sessionSound hlive role _ (.inr rfl) hseqIdle
      · exact ended_sessionSound hlive (not_sends_of_ldr role (.inl state)) idle
  | armFail role idle => exact ldrToDispatch_sessionSound (s := { s with ldr.failTmo := _ }) hlive role idle
  | armPing role idle =>
    exact ended_sessionSound (s := { s with ldr := { s.ldr with pingTmo := _, state := .waitPing } }) hlive
      (not_sends_of_ldr role (.inr rfl)) idle
  | checkPing role state idle =>
    dsimp only
    split
    · exact ldrToDispatch_sessionSound hlive role idle
    · exact .of_stands (.takeInd role state idle) hlive rfl
  | takeInd role state idle =>
    obtain ⟨f, ind, h⟩ := receiveFrame_answer s
    simp only [h]
    cases f with
    | none => exact ended_sessionSound (s := { s with q.ind := ind }) hlive (not_sends_of_ldr role (.inr state)) idle
    | some f => exact ldrOnApp_sessionSound (s := { s with q.ind := ind }) hlive role state idle _
  | putIn d role state idle =>
    obtain ⟨usbIn, h⟩ := enqueueUsbIn_answer d s
    simp only [h]
    exact ldrToDispatch_sessionSound (s := { s with q.usbIn := usbIn }) hlive role idle

/-! ## The Follower -/

section
variable (hlive : s.fatal = none) (hrole : s.build.role = .follower) (hst : s.flw = .wait)
include hlive hrole hst

theorem flwReply_sessionSound (app : Bytes) (hidle : seqIdle s = true) : SessionSound (flwReply app s) := by
  obtain ⟨alloc, ⟨e, h⟩ | ⟨r, h⟩ | ⟨f, tag, hactive, -, h⟩⟩ := sendApp_cases app s <;> simp only [flwReply, h]
  · exact ended_sessionSound (s := { s with env.alloc := alloc }) hlive (not_sends_of_flw hrole hst) (inactive_of_seqIdle hidle)
  · exact .of_raised rfl (sendApp_reason hidle h)
  · exact .of_ended hlive rfl (iff_of_true ((sends_follower (by exact hrole)).mpr rfl) hactive)

theorem flwOnApp_sessionSound (hidle : s.seq.tag = .inactive) (app : Bytes) : SessionSound (flwOnApp app s) := by
  have hended := ended_sessionSound hlive (not_sends_of_flw hrole hst) hidle
  unfold flwOnApp
  split
  · exact hended
  split
  · exact inbound_sessionSound hlive fun _ => .flw _ hrole hst hidle
  · split
    · exact .of_stands (.flw _ hrole hst hidle) hlive rfl
    · exact .of_raised (r := .followerPingOneWay) rfl rfl
  · exact hended
  · exact hended

end

theorem flwStep_sessionSound {p : FlwPoint} (hlive : s.fatal = none) (hseq : SeqCoherent s) (hs : Stands s (.flw p)) :
    SessionSound (flwStep p s) := by
  obtain ⟨role, state, idle⟩ : s.build.role = .follower ∧ s.flw = .wait ∧ s.seq.tag = .inactive := by
    cases hs with
    | flw _ role state idle => exact ⟨role, state, idle⟩
  cases p <;> unfold flwStep
  case takeInd =>
    obtain ⟨f, ind, h⟩ := receiveFrame_answer s
    simp only [h]
    cases f with
    | none => exact ended_sessionSound (s := { s with q.ind := ind }) hlive (not_sends_of_flw role state) idle
    | some f => exact flwOnApp_sessionSound (s := { s with q.ind := ind }) hlive role state idle _
  case putIn d =>
    obtain ⟨usbIn, h⟩ := enqueueUsbIn_answer d s
    simp only [h]
    exact ended_sessionSound (s := { s with q.usbIn := usbIn }) hlive (not_sends_of_flw role state) idle
  case takeOut =>
    have hseqIdle := seqIdle_of_inactive hseq idle
    dsimp only
    split
    next rest _ => exact flwReply_sessionSound (s := { s with q.usbOut := rest }) hlive role state _ hseqIdle
    · exact flwReply_sessionSound hlive role state _ hseqIdle

/-! ## DRV_INIT -/

theorem initStep_sessionSound {p : InitPoint} (htask : s.task = some (.init p)) (hs : SessionSound s) :
    SessionSound (initStep p s) := by
  have hrest : atRest s.task = true := by rw [htask]; rfl
  cases p <;> unfold initStep
  case lineLow | armLow | lineHigh | armPoll | disarm | rearm => exact hs.rests rfl rfl hrest rfl
  case checkLow | checkPoll => dsimp only; split <;> exact hs.rests rfl rfl hrest rfl
  case takeInd =>
    obtain ⟨f, ind, h⟩ := receiveFrame_answer s
    simp only [h]
    cases f with
    | none => exact hs.rests rfl rfl hrest rfl
    | some f => dsimp only; split <;> exact hs.rests rfl rfl hrest rfl

theorem initStart_sessionSound (htask : s.task = none) (hs : SessionSound s) : SessionSound (initStart s) := by
  have hrest : atRest s.task = true := by rw [htask]; rfl
  unfold initStart
  split
  case h_4 => exact hs
  all_goals exact hs.rests rfl rfl hrest rfl

end

/-! ## Runs of primitive steps -/

/-- What a run of primitive steps keeps: the claim, the sequencer's invariant that it rests on, and that a task event goes on only
while the engine is live. -/
structure SessionRuns (s : State) : Prop where
  coherent : SeqCoherent s
  sound : SessionSound s
  live : s.task ≠ none → s.fatal = none

section
variable {s t : State}

theorem Proceeds.live {init : Bool} {n : Nat} (h : Proceeds init n s t) (hlive : s.fatal = none) (htask : t.task ≠ none) :
    t.fatal = none := by
  cases h with
  | ends ended => exact absurd ended htask
  | stands p task event live => exact live.trans hlive

theorem taskStep_keeps_sessionRuns {p : TaskPoint} (htask : s.task = some p) (hs : SessionRuns s) (h : taskStep p s = .next t) :
    SessionRuns t := by
  obtain ⟨hseq, hsound, hlive⟩ := hs
  replace hlive := hlive (by simp [htask])
  have hstands := hsound.1.stands hlive htask
  refine ⟨taskStep_keeps_seqCoherent htask hseq h, ?_, (taskStep_proceeds h).live hlive⟩
  cases p with
  | init p => cases h; exact initStep_sessionSound htask hsound
  | seq k p =>
    obtain ⟨hactive, -⟩ := hseq.2.2 k p htask
    cases hstands rfl with
    | seq _ _ polls => exact seqStep_sessionSound hlive polls hactive h
  | ldr p => cases h; exact ldrStep_sessionSound hlive hseq (hstands rfl)
  | flw p => cases h; exact flwStep_sessionSound hlive hseq (hstands rfl)

theorem runTask_sessionSound (n : Nat) (hs : SessionRuns s) : Yields SessionSound (runTask n s) := fun t h =>
  (runTask_keeps (P := SessionRuns) (fun _ _ _ => taskStep_keeps_sessionRuns) n s t hs h).sound

theorem runPreemptible_sessionSound (hs : SessionRuns s) : Yields SessionSound (runPreemptible s) := by
  unfold runPreemptible
  split
  · exact runTask_sessionSound _ hs
  · exact runTask_sessionSound _ ⟨hs.coherent, hs.sound, hs.live⟩

/-- Where a task event that begins is run from. -/
theorem SessionMove.begins_sessionRuns {init : Bool} {n : Nat} (move : SessionMove s t) (proceeds : Proceeds init n s t)
    (hlive : s.fatal = none) (htask : s.task = none) (hseq : SeqCoherent s) (hs : SessionSound t) : SessionRuns t :=
  ⟨move.keeps_seqCoherent (noPoll_of_none htask) hseq, hs, proceeds.live hlive⟩

end

/-! ## Where a task event begins -/

section
variable {s : State}

theorem sessionStart_proceeds (s : State) : Proceeds false (s.q.status.length + 8) s (sessionStart s) := by
  unfold sessionStart
  split
  · unfold ldrStart
    split
    · exact .stands _ rfl rfl rfl (by simp [stepsLeft])
    · exact (ldrBody_proceeds s).mono (by omega) rfl
  · unfold flwStart
    split
    · exact .stands _ rfl rfl rfl (by simp [stepsLeft])
    · exact (seqStart_proceeds s _).mono (by omega) rfl

theorem initStart_proceeds (htask : s.task = none) : Proceeds true 4 s (initStart s) := by
  unfold initStart
  split
  case h_4 => exact .ends htask
  all_goals exact .stands _ rfl rfl rfl (by simp [stepsLeft])

theorem onApp_proceeds (app : Bytes) (s : State) : Proceeds false 2 s (onApp app s) := by
  unfold onApp
  split
  · exact ldrOnApp_proceeds s app
  · exact flwOnApp_proceeds s app

variable (hlive : s.fatal = none) (htask : s.task = none) (hs : SessionSound s)
include hlive htask hs

theorem sends_iff_of_free : Sends s ↔ s.seq.tag ≠ .inactive :=
  (sessionCoherent_iff_sends (by rw [htask]; rfl)).mp hs.1 hlive

theorem inactive_of_not_sends (h : ¬ Sends s) : s.seq.tag = .inactive :=
  not_not.mp (mt (sends_iff_of_free hlive htask hs).mpr h)

theorem sessionStart_sessionSound : SessionSound (sessionStart s) := by
  have hsends := sends_iff_of_free hlive htask hs
  have hidle := inactive_of_not_sends hlive htask hs
  unfold sessionStart
  split
  case h_1 role =>
    unfold ldrStart
    split
    · exact .of_stands (.checkBackoff role hsends) hlive rfl
    · exact ldrBody_sessionSound hlive role hsends
  case h_2 role =>
    unfold flwStart
    split
    case h_1 hst => exact .of_stands (.flw _ role hst (hidle (not_sends_of_flw role hst))) hlive rfl
    case h_2 hst => exact (Polls.flwSend role hst).begins_sessionSound hlive (hsends.mp ((sends_follower role).mpr hst))

theorem onApp_sessionSound (hreads : readsHeaders s = true) (app : Bytes) : SessionSound (onApp app s) := by
  have hidle := inactive_of_not_sends hlive htask hs
  rw [readsHeaders, Bool.and_eq_true] at hreads
  obtain ⟨-, hstate⟩ := hreads
  unfold onApp
  split <;> rename_i role <;> rw [role] at hstate <;> replace hstate := of_decide_eq_true hstate
  · exact ldrOnApp_sessionSound hlive role hstate (hidle (not_sends_of_ldr role (.inr hstate))) app
  · exact flwOnApp_sessionSound hlive role hstate (hidle (not_sends_of_flw role hstate)) app

end

/-! ## Every instruction -/

section
variable {s : State} (hseq : SeqCoherent s) (hs : SessionSound s)
include hseq hs

theorem execSessionPoll_sessionSound : Yields SessionSound (execSessionPoll s) := by
  refine yields_ifLive fun hlive => ?_
  split
  · exact yields_refused _
  · exact runPreemptible_sessionSound ⟨hseq, hs, fun _ => hlive⟩
  case h_3 htask =>
    split
    · exact runPreemptible_sessionSound ((sessionStart_move s).begins_sessionRuns (sessionStart_proceeds s) hlive htask hseq
        (sessionStart_sessionSound hlive htask hs))
    · exact yields_refused _

theorem execDrvInit_sessionSound : Yields SessionSound (execDrvInit s) := by
  refine yields_ifLive fun hlive => ?_
  split
  · exact runPreemptible_sessionSound ⟨hseq, hs, fun _ => hlive⟩
  · exact yields_refused _
  case h_3 htask =>
    split
    · exact runPreemptible_sessionSound ((initStart_move htask).begins_sessionRuns (initStart_proceeds htask) hlive htask hseq
        (initStart_sessionSound htask hs))
    · exact yields_refused _

theorem readApp_sessionSound (app : Bytes) : Yields SessionSound (readApp app s) := by
  refine yields_ifLive fun hlive => ?_
  split
  · exact yields_refused _
  case isFalse hnot =>
    have hreads : readsHeaders s = true := by simpa using hnot
    have htask := task_of_readsHeaders hreads
    split
    · exact runTask_sessionSound _ ((onApp_move app s).begins_sessionRuns (onApp_proceeds app s) hlive htask hseq
        (onApp_sessionSound hlive htask hs hreads app))
    · exact yields_refused _

end

/-! ### Instructions that are no part of the session -/

section
variable {s t : State}

theorem rxByte_sessionSound (b : Byte) (s : State) (hs : SessionSound s) : SessionSound (rxByte b s) := by
  have hl := rxByte_leaves b s
  exact hs.same (by rw [sessionView, hl.build, hl.ldr, hl.flw, hl.seq, sessionView]) hl.task (rxByte_faults s b)

theorem txReady_sessionSound (h : txReady s = .next t) (hs : SessionSound s) : SessionSound t := by
  have hl := txReady_leaves h
  exact hs.same (by rw [sessionView, hl.build, hl.ldr, hl.flw, hl.seq, sessionView]) hl.task (.inl hl.fatal)

/-- An event or an operation that writes nothing the invariant reads. -/
theorem SessionSound.frame (hs : SessionSound s) (view : sessionView t = sessionView s) (task : t.task = s.task)
    (fatal : t.fatal = s.fatal) : SessionSound t := hs.same view task (.inl fatal)

variable (hs : SessionSound s)
include hs

theorem arrive_sessionSound (bs : Bytes) : Yields SessionSound (arrive bs s) :=
  yields_ifLive fun _ => yields_next (deliver_keeps rxByte_sessionSound bs s hs)

theorem arriveFrame_sessionSound (c : Byte) (stx : Stx) (p : Bytes) : Yields SessionSound (arriveFrame c stx p s) := by
  unfold arriveFrame
  split
  · exact arrive_sessionSound hs _
  · exact yields_refused _

theorem execFrame_sessionSound (stx : Stx) (command : Byte) (payload : Bytes) (lsb msb : Byte) :
    Yields SessionSound (execFrame stx command payload lsb msb s) := by
  unfold execFrame
  split
  · exact arrive_sessionSound hs _
  · exact yields_refused _

theorem builder_sessionSound (fits : Bool) (command : Byte) (p : Bytes) (tag : SenderTag) :
    Yields SessionSound (ifLive s (.next (buildResult (buildFrame fits command p tag s)))) := by
  obtain ⟨answer, alloc, h, -⟩ := buildFrame_answer fits command p tag s
  refine yields_ifLive fun _ => yields_next ?_
  rw [h]
  cases answer with
  | ok | err => exact hs.frame rfl rfl rfl
  | fatal r => exact .of_raised rfl (buildFrame_reason h)

theorem execDrvData_sessionSound (buf : Bytes) : Yields SessionSound (execDrvData buf s) := by
  unfold execDrvData buildData
  split <;> exact builder_sessionSound hs _ _ _ _

theorem execDrvReceiveFrame_sessionSound : Yields SessionSound (execDrvReceiveFrame s) := by
  obtain ⟨f, ind, h⟩ := receiveFrame_answer s
  refine yields_ifLive fun _ => yields_next ?_
  rw [h]
  split
  · exact .of_raised rfl rfl
  · exact hs.frame rfl rfl rfl

theorem execFrameNew_sessionSound (start length command : Byte) (payload : Bytes) :
    Yields SessionSound (execFrameNew start length command payload s) := by
  refine yields_ifLive fun _ => yields_next ?_
  split
  · exact hs.frame rfl rfl rfl
  · exact .of_raised rfl rfl

theorem execHostOutPush_sessionSound (buf : Bytes) : Yields SessionSound (execHostOutPush buf s) := by
  refine yields_ifLive fun _ => ?_
  split
  · refine yields_next ?_
    rcases enqueueUsbOut_cases buf s with ⟨_, h⟩ | ⟨_, h⟩ <;> rw [h] <;> exact hs.frame rfl rfl rfl
  · exact yields_refused _

theorem execHostInPop_sessionSound : Yields SessionSound (execHostInPop s) := by
  refine yields_ifLive fun _ => yields_next ?_
  split <;> exact hs.frame rfl rfl rfl

theorem setTimeoutReg_sessionSound (id : TimeoutId) (v : Timeout) : SessionSound (setTimeoutReg id v s) := by
  cases id <;> exact hs.frame rfl rfl rfl

end

theorem exec_sessionSound {i : Instr} {s : State} (hi : noDirectSeqCall i = true) (hseq : SeqCoherent s) (hs : SessionSound s) :
    Yields SessionSound (exec i s) := by
  cases i
  case seqEnqueue | seqPoll => cases hi
  case sessionPoll => exact execSessionPoll_sessionSound hseq hs
  case drvInit => exact execDrvInit_sessionSound hseq hs
  case hdrIdle | hdrData | hdrPing => exact readApp_sessionSound hseq hs _
  case hdrReserved header _ => cases header <;> exact readApp_sessionSound hseq hs _
  case reset => exact yields_next (.of_live rfl (atReset_sessionCoherent _ _ _))
  case rxByte b => exact yields_ifLive fun _ => yields_next (rxByte_sessionSound b s hs)
  case frame => exact execFrame_sessionSound hs _ _ _ _ _
  case stxRequest | stxIndication | ack | nak | stxStatus | statusSequence | desync => exact arrive_sessionSound hs _
  case resetReq | resetCnf | resetInd | resetErr | mibWriteReq | mibWriteCnf | mibWriteUnused2 | mibWriteErr | mibEraseReq |
      mibEraseCnf | mibEraseUnused2 | mibEraseErr | pingReq | pingCnf | pingUnused2 | pingErr | phyReq | phyCnf | phyInd |
      phyErr | dlReq | dlCnf | dlInd | dlErr | commandReserved => exact arriveFrame_sessionSound hs _ _ _
  case txReady =>
    refine yields_ifLive fun _ => ?_
    split
    · exact fun t h => txReady_sessionSound h hs
    · exact yields_refused _
  case drvResetReq | drvMibWrite | drvMibErase | drvPing | drvPhyData | drvDlData => exact builder_sessionSound hs _ _ _ _
  case drvData buf => exact execDrvData_sessionSound hs buf
  case drvReceiveFrame => exact execDrvReceiveFrame_sessionSound hs
  case checksum | frameChecksum | frameSerialise => exact yields_ifLive fun _ => yields_next (hs.frame rfl rfl rfl)
  case frameNew => exact execFrameNew_sessionSound hs _ _ _ _
  case hostOutPush buf => exact execHostOutPush_sessionSound hs buf
  case hostInPop => exact execHostInPop_sessionSound hs
  case timeoutSet t _ | timeoutDisarm t =>
    refine yields_ifLive fun _ => ?_
    split
    · exact yields_next (setTimeoutReg_sessionSound hs t _)
    · exact yields_refused _
  case drvSetReady | timeoutExpired =>
    refine yields_ifLive fun _ => ?_
    split
    · exact yields_next (hs.frame rfl rfl rfl)
    · exact yields_refused _
  case uartShift | clockAdvance =>
    refine yields_ifLive fun _ => ?_
    split
    · exact yields_refused _
    · exact yields_next (hs.frame rfl rfl rfl)

/-- Settles O57: a request is taken exactly as the session enters a sending state, and the sequencer returns to idle exactly as it leaves
one; so it finds the sequencer idle where it enqueues and busy where it polls. -/
theorem sessionInvariantKept : Obligations.SessionInvariantKept := by
  intro s t hseq hcoherent hbusy hinactive hrow h
  have hs : SessionSound s := ⟨hcoherent, hbusy, hinactive⟩
  rcases step_next_cases h with rfl | ⟨i, trace, hf, hexec⟩
  · exact hs
  · exact exec_sessionSound (s := { s with env.trace := trace }) (hrow i _ hf) (hseq.of_eq rfl rfl) (hs.frame rfl rfl rfl) t hexec

end Sys2Proof.Machine
end

section
/-! PROOFS. The session (46_session.md R260-R281), O40, O42 to O46 and O48: the host's queues; one lemma per primitive step of the Leader
and of the Follower that reads the state; an uninterrupted SESSION_POLL as its steps in a row; and a poll of the sequencer, direct and
called by the session, side by side. -/
namespace Sys2Proof.Machine

/-! ## The host's queues (R280, R281) -/

section
variable {s : State} {buf : Bytes}

theorem exec_hostOutPush (hlive : s.fatal = none) (hlo : 1 ≤ buf.length) (hhi : buf.length ≤ 255) :
    exec (.hostOutPush buf) s = .next (enqueueUsbOut buf s) :=
  (ifLive_of_live hlive _).trans (if_pos (by simp [hlo, show buf.length ≤ Config.maxPayload from hhi]))

theorem exec_hostOutPush_refused (hlive : s.fatal = none) (h : buf = [] ∨ 255 < buf.length) :
    exec (.hostOutPush buf) s = .refused .badBuffer := by
  have hbad : ¬ (decide (1 ≤ buf.length) && decide (buf.length ≤ Config.maxPayload)) = true := by
    rw [Bool.and_eq_true, decide_eq_true_eq, decide_eq_true_eq, Config.maxPayload]
    rcases h with rfl | h
    · simp
    · omega
  exact (ifLive_of_live hlive _).trans (if_neg hbad)

theorem enqueueUsbOut_room (h : s.q.usbOut.length < Config.capUsbOut) :
    enqueueUsbOut buf s = { s with q.usbOut := s.q.usbOut ++ [buf] } := by
  rw [enqueueUsbOut, enqueue_of_room buf h]

theorem enqueueUsbOut_full (h : Config.capUsbOut ≤ s.q.usbOut.length) : enqueueUsbOut buf s = s := by
  rw [enqueueUsbOut, enqueue_of_full buf h]

theorem exec_hostInPop_nil (hlive : s.fatal = none) (h : s.q.usbIn = []) :
    exec .hostInPop s = .next { s with result := .popped none } := by
  change execHostInPop s = _
  rw [execHostInPop, ifLive_of_live hlive, h, dequeue_nil]

theorem exec_hostInPop_cons {rest : List Bytes} (hlive : s.fatal = none) (h : s.q.usbIn = buf :: rest) :
    exec .hostInPop s = .next { s with q.usbIn := rest, result := .popped (some buf) } := by
  change execHostInPop s = _
  rw [execHostInPop, ifLive_of_live hlive, h, dequeue_cons]

end

/-- Settles O48: the length is tested first, then the room in the queue. -/
theorem hostQueues : Obligations.HostQueues := by
  intro buf s hlive
  refine ⟨fun hlo hhi hroom => ?_, fun hlo hhi hfull => ?_, exec_hostOutPush_refused hlive, exec_hostInPop_nil hlive,
    fun b rest h => exec_hostInPop_cons hlive h⟩
  · rw [exec_hostOutPush hlive hlo hhi, enqueueUsbOut_room hroom]
  · rw [exec_hostOutPush hlive hlo hhi, enqueueUsbOut_full hfull]

/-! ## Where SESSION_POLL begins -/

section
variable {s : State}

theorem runPreemptible_of_ended (h : s.task = none) :
    runPreemptible s = .next { s with env.preempt := s.env.preempt.tail } := by
  cases hpre : s.env.preempt with
  | nil =>
    have hkept : { s with env.preempt := ([] : List Nat).tail } = s := by rw [List.tail_nil, ← hpre]
    rw [runPreemptible_of_free hpre, runTask_of_none _ h, hkept]
  | cons n rest =>
    rw [runPreemptible_of_budget hpre]
    exact runTask_of_none (s := scheduled rest s) n h

theorem exec_sessionPoll_begins (hlive : s.fatal = none) (htask : s.task = none) (hdone : s.init.phase = .done)
    (hgate : s.sig.readyGate = true) : exec .sessionPoll s = runPreemptible (sessionEnters s) := by
  change execSessionPoll s = _
  rw [execSessionPoll, ifLive_of_live hlive, htask, ← sessionStart_eq_sessionEnters]
  exact if_pos (by simp [sessionEnabled, hdone, hgate])

/-- Begun or ended, SESSION_POLL goes on from where it entered. -/
theorem goesOn_sessionEnters (hlive : s.fatal = none) :
    goesOn .sessionPoll (.next (sessionEnters s)) = runPreemptible (sessionEnters s) := by
  have hproceeds := sessionStart_proceeds s
  rw [sessionStart_eq_sessionEnters] at hproceeds
  cases hproceeds with
  | ends ended => rw [runPreemptible_of_ended ended]; exact if_pos ended
  | stands p task event live =>
    have hresumes : resumes p = .sessionPoll := by rw [resumes, event]; rfl
    have hsome : (sessionEnters s).task ≠ none := by rw [task]; exact Option.some_ne_none p
    exact (if_neg hsome).trans (hresumes ▸ exec_resumes (live.trans hlive) task)

end

/-! ## The primitive steps of the session that read the state

The others are assignments, and hold by computation. -/

section
variable {s : State} {app : Bytes}

/-! ### The Leader (R260-R264) -/

theorem taskStep_checkBackoff_running (h : expired s s.ldr.failTmo = false) :
    taskStep (.ldr .checkBackoff) s = .next (ended s) := congrArg _ (if_neg (by simp [h]))

theorem taskStep_checkBackoff_expired (h : expired s s.ldr.failTmo = true) :
    taskStep (.ldr .checkBackoff) s = .next (standing (.ldr .disarmBackoff) s) := congrArg _ (if_pos h)

theorem taskStep_disarmBackoff (s : State) :
    taskStep (.ldr .disarmBackoff) s = .next (leaderEnters { s with ldr.failTmo.armed := false }) :=
  congrArg _ (ldrBody_eq_leaderEnters _)

theorem ldrSend_ok {next : LdrState} (hb : s.build.wf = true) (hidle : seqIdle s = true)
    (hlen : app.length ≤ dataLimit s.build) (hok : AllocOk s) :
    ldrSend app next s = ended { handedOver app s with ldr.state := next } := by
  rw [ldrSend, sendApp_ok hb hidle hlen hok]
  rfl

theorem ldrSend_exhausted {next : LdrState} (hlen : app.length ≤ dataLimit s.build) (hnok : ¬ AllocOk s) :
    ldrSend app next s = fatalEnd .allocFail (afterDraw s) := by
  rw [ldrSend, sendApp_exhausted hlen hnok]
  rfl

theorem ldrSend_tooLong {next : LdrState} (hlen : dataLimit s.build < app.length) :
    ldrSend app next s = standing (.ldr .armFail) s := by
  rw [ldrSend, sendApp_tooLong hlen]
  rfl

theorem taskStep_takeOut_cons {buf : Bytes} {rest : List Bytes} (h : s.q.usbOut = buf :: rest) :
    taskStep (.ldr .takeOut) s = .next (ldrSend (Config.hdrData :: buf) .sendData { s with q.usbOut := rest }) := by
  simp only [taskStep, ldrStep, h, dequeue_cons]

theorem taskStep_takeOut_ping (h : s.q.usbOut = []) (htwo : s.build.twoWay = true) :
    taskStep (.ldr .takeOut) s = .next (ldrSend [Config.hdrPing] .sendPing s) := by
  simp only [taskStep, ldrStep, h, dequeue_nil, if_pos htwo]

theorem taskStep_takeOut_none (h : s.q.usbOut = []) (hone : s.build.twoWay = false) :
    taskStep (.ldr .takeOut) s = .next (ended s) := by
  have hnot : ¬ s.build.twoWay = true := by simp [hone]
  simp only [taskStep, ldrStep, h, dequeue_nil, if_neg hnot, endTask_eq_ended]

theorem one_le_dataLimit (b : Build) : 1 ≤ dataLimit b := by
  unfold dataLimit
  cases b.dataService <;> decide

theorem taskStep_checkPing_expired (h : expired s s.ldr.pingTmo = true) :
    taskStep (.ldr .checkPing) s = .next (ended { s with ldr.state := .dispatch }) := congrArg _ (if_pos h)

theorem taskStep_checkPing_running (h : expired s s.ldr.pingTmo = false) :
    taskStep (.ldr .checkPing) s = .next (standing (.ldr .takeInd) s) := congrArg _ (if_neg (by simp [h]))

theorem taskStep_ldrTakeInd_nil (h : s.q.ind = []) : taskStep (.ldr .takeInd) s = .next (ended s) := by
  simp only [taskStep, ldrStep, receiveFrame_nil h, endTask_eq_ended]

theorem taskStep_ldrTakeInd_cons {f : Frame} {rest : List Frame} (h : s.q.ind = f :: rest) :
    taskStep (.ldr .takeInd) s = .next (leaderGoesOn (f.payload.drop s.build.indOffset.val) { s with q.ind := rest }) := by
  simp only [taskStep, ldrStep, receiveFrame_cons h, ldrOnApp_eq_leaderGoesOn, appPayload]

theorem taskStep_ldrPutIn (d : Bytes) (s : State) :
    taskStep (.ldr (.putIn d)) s = .next (ended (handedToHost d { s with ldr.state := .dispatch })) := by
  rw [taskStep, ldrStep, enqueueUsbIn_eq, handedToHost_eq]
  rfl

/-! ### The Follower (R270, R271) -/

theorem taskStep_flwTakeInd_nil (h : s.q.ind = []) : taskStep (.flw .takeInd) s = .next (ended s) := by
  simp only [taskStep, flwStep, receiveFrame_nil h, endTask_eq_ended]

theorem taskStep_flwTakeInd_cons {f : Frame} {rest : List Frame} (h : s.q.ind = f :: rest) :
    taskStep (.flw .takeInd) s = .next (followerGoesOn (f.payload.drop s.build.indOffset.val) { s with q.ind := rest }) := by
  simp only [taskStep, flwStep, receiveFrame_cons h, flwOnApp_eq_followerGoesOn, appPayload]

theorem taskStep_flwPutIn (d : Bytes) (s : State) : taskStep (.flw (.putIn d)) s = .next (ended (handedToHost d s)) := by
  rw [taskStep, flwStep, enqueueUsbIn_eq, handedToHost_eq]
  rfl

theorem flwReply_eq_repliesWith (hb : s.build.wf = true) (hidle : seqIdle s = true) (app : Bytes) :
    flwReply app s = ended (repliesWith app s) := by
  unfold flwReply repliesWith
  split_ifs with hlong hnok
  · rw [sendApp_tooLong hlong]; rfl
  · rw [sendApp_exhausted (Nat.not_lt.mp hlong) (not_not.mpr hnok)]; rfl
  · rw [sendApp_ok hb hidle (Nat.not_lt.mp hlong) hnok]; rfl

theorem taskStep_flwTakeOut (hb : s.build.wf = true) (hidle : seqIdle s = true) :
    taskStep (.flw .takeOut) s = .next (ended (followerReplies s)) := by
  cases hout : s.q.usbOut with
  | nil =>
    rw [followerReplies_nil hout, ← flwReply_eq_repliesWith hb hidle]
    simp only [taskStep, flwStep, hout, dequeue_nil]
  | cons buf rest =>
    have hreply := flwReply_eq_repliesWith (s := { s with q.usbOut := rest }) hb hidle (Config.hdrData :: buf)
    rw [followerReplies_cons hout, ← hreply]
    simp only [taskStep, flwStep, hout, dequeue_cons]

end

/-- Settles O40: how SESSION_POLL begins, then step by step; the steps that only assign hold by computation. -/
theorem sessionPrimitiveSteps : Obligations.SessionPrimitiveSteps := by
  intro s
  refine ⟨fun hlive htask hdone hgate => ?begins, taskStep_checkBackoff_running, taskStep_checkBackoff_expired,
    taskStep_disarmBackoff s, rfl, fun hb hst htag => ?takeOut, rfl, taskStep_checkPing_expired, taskStep_checkPing_running,
    taskStep_ldrTakeInd_nil, fun f rest => taskStep_ldrTakeInd_cons, fun d => taskStep_ldrPutIn d s, taskStep_flwTakeInd_nil,
    fun f rest => taskStep_flwTakeInd_cons, fun d => taskStep_flwPutIn d s, fun hb hst htag => ?reply⟩
  case begins => rw [exec_sessionPoll_begins hlive htask hdone hgate, goesOn_sessionEnters hlive]
  case reply => exact taskStep_flwTakeOut hb (by simp [seqIdle, hst, htag])
  case takeOut =>
    have hidle : seqIdle s = true := by simp [seqIdle, hst, htag]
    refine ⟨fun buf rest hout hlen hok => ?_, fun buf rest hout hlen hnok => ?_, fun buf rest hout hlen => ?_,
      fun hout htwo hok => ?_, fun hout htwo hnok => ?_, taskStep_takeOut_none⟩
    · rw [taskStep_takeOut_cons hout]
      exact congrArg _ (ldrSend_ok (s := { s with q.usbOut := rest }) hb hidle hlen hok)
    · rw [taskStep_takeOut_cons hout]
      exact congrArg _ (ldrSend_exhausted (s := { s with q.usbOut := rest }) hlen hnok)
    · rw [taskStep_takeOut_cons hout]
      exact congrArg _ (ldrSend_tooLong (s := { s with q.usbOut := rest }) hlen)
    · rw [taskStep_takeOut_ping hout htwo]
      exact congrArg _ (ldrSend_ok hb hidle (one_le_dataLimit _) hok)
    · rw [taskStep_takeOut_ping hout htwo]
      exact congrArg _ (ldrSend_exhausted (one_le_dataLimit _) hnok)

/-! ## An uninterrupted SESSION_POLL -/

section
variable {s : State}

theorem pollBegins_env (k : Caller) (s : State) : (pollBegins k s).env = s.env := by
  unfold pollBegins
  split
  · rfl
  · split <;> rfl

theorem leaderEnters_env (s : State) : (leaderEnters s).env = s.env := by
  unfold leaderEnters
  split
  case h_1 | h_4 => rfl
  case h_2 | h_3 => exact pollBegins_env _ s

theorem sessionEnters_env (s : State) : (sessionEnters s).env = s.env := by
  unfold sessionEnters
  split
  case h_1 => split_ifs; exacts [rfl, leaderEnters_env s]
  case h_2 => split; exacts [rfl, pollBegins_env _ s]

/-- Whatever state of the session it enters, SESSION_POLL has fuel enough to end. -/
theorem sessionEnters_remaining (s : State) : remaining (sessionEnters s) < s.q.status.length + 8 := by
  have hproceeds := sessionStart_proceeds s
  rw [sessionStart_eq_sessionEnters] at hproceeds
  exact hproceeds.remaining_lt (by omega)

theorem exec_sessionPoll_free (hfree : SessionFree s) {n : Nat} (hn : s.q.status.length + 7 ≤ n) :
    exec .sessionPoll s = runTask n (sessionEnters s) := by
  obtain ⟨⟨hlive, htask, hpre⟩, hdone, hgate⟩ := hfree
  have hfuel := sessionEnters_remaining s
  have hpre' : (sessionEnters s).env.preempt = [] := by rw [sessionEnters_env, hpre]
  rw [exec_sessionPoll_begins hlive htask hdone hgate, runPreemptible_of_free hpre']
  exact runTask_of_enough (remaining_le_taskFuel _) (by omega)

theorem sessionEnters_backoff (hrole : s.build.role = .leader) (harmed : s.ldr.failTmo.armed = true) :
    sessionEnters s = standing (.ldr .checkBackoff) s := by
  rw [sessionEnters, hrole]
  exact if_pos harmed

theorem sessionEnters_leader (hrole : s.build.role = .leader) (hun : s.ldr.failTmo.armed = false) :
    sessionEnters s = leaderEnters s := by
  rw [sessionEnters, hrole]
  exact if_neg (by simp [hun])

theorem leaderEnters_dispatch (hst : s.ldr.state = .dispatch) : leaderEnters s = standing (.ldr .takeOut) s := by
  rw [leaderEnters, hst]

theorem leaderEnters_waitPing (hst : s.ldr.state = .waitPing) : leaderEnters s = standing (.ldr .checkPing) s := by
  rw [leaderEnters, hst]

theorem sessionEnters_wait (hrole : s.build.role = .follower) (hst : s.flw = .wait) :
    sessionEnters s = standing (.flw .takeInd) s := by
  rw [sessionEnters, hrole, hst]

/-! ### The point an event stands at plays no part in where its next step leads -/

theorem leaderEnters_standing (p : TaskPoint) (s : State) : leaderEnters (standing p s) = leaderEnters s := rfl

theorem leaderGoesOn_standing (p : TaskPoint) (app : Bytes) (s : State) :
    leaderGoesOn app (standing p s) = leaderGoesOn app s := by
  cases app <;> rfl

theorem followerGoesOn_standing (p : TaskPoint) (app : Bytes) (s : State) :
    followerGoesOn app (standing p s) = followerGoesOn app s := by
  cases app <;> rfl

/-! ### The back-off prologue (R260) -/

/-- Past its back-off, the Leader goes on as with the timer unarmed. -/
theorem exec_sessionPoll_backedOff (hfree : SessionFree s) (hrole : s.build.role = .leader) (harmed : s.ldr.failTmo.armed = true)
    (hexp : expired s s.ldr.failTmo = true) :
    exec .sessionPoll s = exec .sessionPoll { s with ldr.failTmo.armed := false } := by
  have hunarmed : sessionEnters { s with ldr.failTmo.armed := false } = leaderEnters { s with ldr.failTmo.armed := false } :=
    sessionEnters_leader hrole rfl
  calc exec .sessionPoll s
    _ = runTask (s.q.status.length + 9) (standing (.ldr .checkBackoff) s) := by
      rw [exec_sessionPoll_free hfree (n := s.q.status.length + 9) (by omega), sessionEnters_backoff hrole harmed]
    _ = runTask (s.q.status.length + 8) (standing (.ldr .disarmBackoff) s) :=
      runTask_of_step _ rfl (taskStep_checkBackoff_expired (s := standing _ s) hexp)
    _ = runTask (s.q.status.length + 7) (leaderEnters { s with ldr.failTmo.armed := false }) :=
      runTask_of_step _ rfl (taskStep_disarmBackoff (standing _ s))
    _ = exec .sessionPoll { s with ldr.failTmo.armed := false } := by
      rw [← hunarmed]
      exact (exec_sessionPoll_free (s := { s with ldr.failTmo.armed := false }) hfree le_rfl).symm

end

/-- Settles O43: the prologue is a primitive step, and a second one when the timer has expired. -/
theorem leaderBackoff : Obligations.LeaderBackoff := by
  intro s hfree hrole harmed
  refine ⟨fun hrun => ?_, exec_sessionPoll_backedOff hfree hrole harmed⟩
  calc exec .sessionPoll s
    _ = runTask (s.q.status.length + 8) (standing (.ldr .checkBackoff) s) := by
      rw [exec_sessionPoll_free hfree (n := s.q.status.length + 8) (by omega), sessionEnters_backoff hrole harmed]
    _ = runTask (s.q.status.length + 7) (ended s) :=
      runTask_of_step _ rfl (taskStep_checkBackoff_running (s := standing _ s) hrun)
    _ = .next s := runTask_ended _ hfree.1.2.1

/-! ## The Leader in Dispatch and in WaitPing (R261, R264) -/

section
variable {s : State} (hfree : SessionFree s) (hrole : s.build.role = .leader) (hun : s.ldr.failTmo.armed = false)
include hfree hrole hun

theorem exec_sessionPoll_dispatch (hst : s.ldr.state = .dispatch) {t : State}
    (h : taskStep (.ldr .takeOut) (standing (.ldr .takeOut) s) = .next t) :
    exec .sessionPoll s = runTask (s.q.status.length + 7) t := by
  rw [exec_sessionPoll_free hfree (n := s.q.status.length + 8) (by omega), sessionEnters_leader hrole hun,
    leaderEnters_dispatch hst]
  exact runTask_of_step _ rfl h

theorem exec_sessionPoll_waitPing (hst : s.ldr.state = .waitPing) {t : State}
    (h : taskStep (.ldr .checkPing) (standing (.ldr .checkPing) s) = .next t) :
    exec .sessionPoll s = runTask (s.q.status.length + 7) t := by
  rw [exec_sessionPoll_free hfree (n := s.q.status.length + 8) (by omega), sessionEnters_leader hrole hun,
    leaderEnters_waitPing hst]
  exact runTask_of_step _ rfl h

end

/-- The Leader's back-off is armed by a step of its own, with its way back to Dispatch (R261, R262, R263). -/
theorem runTask_armFail {u : State} (htask : u.task = none) (n : Nat) :
    runTask (n + 1) (standing (.ldr .armFail) u) =
      .next { u with ldr := { u.ldr with failTmo := armed u 100, state := .dispatch } } :=
  (runTask_of_step n rfl rfl).trans
    (runTask_ended (s := { u with ldr := { u.ldr with failTmo := armed u 100, state := .dispatch } }) n htask)

/-- Settles O44: the Dequeue decides, and all but the back-off goes with it. -/
theorem leaderDispatches : Obligations.LeaderDispatches := by
  intro s hfree hb hrole hun hst hstage htag
  have hidle : seqIdle s = true := by simp [seqIdle, hstage, htag]
  have htask : s.task = none := hfree.1.2.1
  have hdispatch {t : State} (h : taskStep (.ldr .takeOut) (standing (.ldr .takeOut) s) = .next t) :=
    exec_sessionPoll_dispatch hfree hrole hun hst h
  refine ⟨fun buf rest hout hlen hok => ?sends, fun buf rest hout hlen => ?tooLong, fun buf rest hout hlen hnok => ?exhausted,
    fun hout htwo hok => ?pings, fun hout htwo hnok => ?pingExhausted, fun hout hone => ?idle⟩
  case sends =>
    rw [hdispatch (taskStep_takeOut_cons hout)]
    exact (congrArg (runTask _) (ldrSend_ok (s := { standing (.ldr .takeOut) s with q.usbOut := rest })
      (app := Config.hdrData :: buf) hb hidle hlen hok)).trans
      (runTask_ended (s := { handedOver (0x01 :: buf) { s with q.usbOut := rest } with ldr.state := .sendData }) _ htask)
  case tooLong =>
    have hkept : { s.ldr with failTmo := armed s 100, state := .dispatch } = { s.ldr with failTmo := armed s 100 } := by
      rw [← hst]
    rw [hdispatch (taskStep_takeOut_cons hout), ← hkept]
    exact (congrArg (runTask _) (ldrSend_tooLong (s := { standing (.ldr .takeOut) s with q.usbOut := rest })
      (app := Config.hdrData :: buf) hlen)).trans
      (runTask_armFail (u := { s with q.usbOut := rest }) htask _)
  case exhausted =>
    rw [hdispatch (taskStep_takeOut_cons hout)]
    exact (congrArg (runTask _) (ldrSend_exhausted (s := { standing (.ldr .takeOut) s with q.usbOut := rest })
      (app := Config.hdrData :: buf) hlen hnok)).trans
      (runTask_fatalEnd (s := afterDraw { s with q.usbOut := rest }) _ _ htask)
  case pings =>
    rw [hdispatch (taskStep_takeOut_ping (s := standing _ s) hout htwo)]
    exact (congrArg (runTask _) (ldrSend_ok (s := standing (.ldr .takeOut) s) (app := [Config.hdrPing]) hb hidle
      (one_le_dataLimit _) hok)).trans
      (runTask_ended (s := { handedOver [0x02] s with ldr.state := .sendPing }) _ htask)
  case pingExhausted =>
    rw [hdispatch (taskStep_takeOut_ping (s := standing _ s) hout htwo)]
    exact (congrArg (runTask _) (ldrSend_exhausted (s := standing (.ldr .takeOut) s) (app := [Config.hdrPing])
      (one_le_dataLimit _) hnok)).trans (runTask_fatalEnd (s := afterDraw s) _ _ htask)
  case idle =>
    rw [hdispatch (taskStep_takeOut_none hout hone)]
    exact runTask_ended _ htask

/-- Settles O45: the timeout, then the Dequeue, then the header's arm run to its end. -/
theorem leaderWaitsForPingReply : Obligations.LeaderWaitsForPingReply := by
  intro s hfree hrole hun hst
  have htask : s.task = none := hfree.1.2.1
  have hwaits {t : State} (h : taskStep (.ldr .checkPing) (standing (.ldr .checkPing) s) = .next t) :=
    exec_sessionPoll_waitPing hfree hrole hun hst h
  refine ⟨fun hexp => ?timeout, fun hrun hempty => ?empty, fun f rest hrun hind => ?frame⟩
  case timeout =>
    rw [hwaits (taskStep_checkPing_expired hexp)]
    exact runTask_ended (s := { s with ldr.state := .dispatch }) _ htask
  case empty =>
    rw [hwaits (taskStep_checkPing_running hrun)]
    exact (runTask_of_step _ rfl (taskStep_ldrTakeInd_nil (s := standing _ s) hempty)).trans (runTask_ended _ htask)
  case frame =>
    rw [hwaits (taskStep_checkPing_running hrun)]
    calc runTask (s.q.status.length + 7) (standing (.ldr .takeInd) s)
      _ = runTask (s.q.status.length + 6) (leaderGoesOn (f.payload.drop s.build.indOffset.val) { s with q.ind := rest }) :=
        (runTask_of_step _ rfl (taskStep_ldrTakeInd_cons (s := standing _ s) hind)).trans
          (congrArg _ (leaderGoesOn_standing _ _ { s with q.ind := rest }))
      _ = .next (leaderReads (f.payload.drop s.build.indOffset.val) { s with q.ind := rest }) :=
        runTask_leaderGoesOn (s := { s with q.ind := rest }) htask _ _

/-! ## The Follower in Wait (R270, R271) -/

/-- Settles O46: the Dequeue, then the header's arm run to its end. -/
theorem followerWaits : Obligations.FollowerWaits := by
  intro s hfree hb hrole hst hstage htag
  have hidle : seqIdle s = true := by simp [seqIdle, hstage, htag]
  have htask : s.task = none := hfree.1.2.1
  rw [exec_sessionPoll_free hfree (n := s.q.status.length + 8) (by omega), sessionEnters_wait hrole hst]
  refine ⟨fun hempty => ?empty, fun f rest hind => ?frame⟩
  case empty =>
    exact (runTask_of_step _ rfl (taskStep_flwTakeInd_nil (s := standing _ s) hempty)).trans (runTask_ended _ htask)
  case frame =>
    calc runTask (s.q.status.length + 8) (standing (.flw .takeInd) s)
      _ = runTask (s.q.status.length + 7) (followerGoesOn (f.payload.drop s.build.indOffset.val) { s with q.ind := rest }) :=
        (runTask_of_step _ rfl (taskStep_flwTakeInd_cons (s := standing _ s) hind)).trans
          (congrArg _ (followerGoesOn_standing _ _ { s with q.ind := rest }))
      _ = .next (followerReads (f.payload.drop s.build.indOffset.val) { s with q.ind := rest }) :=
        runTask_followerGoesOn (s := { s with q.ind := rest }) htask hb hidle _ _

/-! ## SEQ_POLL called by the session, beside a direct call (R262, R263, R272) -/

section
variable {s t : State} {k : Caller}

/-- With fuel enough, a task event runs to its end. -/
theorem runTask_ends {n : Nat} (hn : remaining s ≤ n) (h : runTask n s = .next t) : t.task = none := by
  induction n generalizing s with
  | zero =>
    cases h
    cases htask : t.task with
    | none => rfl
    | some p => exact absurd (remaining_of_task htask ▸ hn) (Nat.not_le.mpr (stepsLeft_pos _ p))
  | succ n ih =>
    rcases runTask_succ_cases n s with ⟨hnone, he⟩ | ⟨p, u, htask, hstep, he⟩ | ⟨_, _, _, _, he⟩ | ⟨_, _, _, _, he⟩ <;> rw [he] at h
    · cases h; exact hnone
    · rw [remaining_of_task htask] at hn
      have hlt := (taskStep_proceeds hstep).remaining_lt (stepsLeft_pos _ p)
      exact ih (by omega) h
    · cases h
    · cases h

/-- What has ended direct polling in `t`, and what the same poll called by the session comes to: a fault stands in both; else both
return the same result from the same state, and SEQ_POLL has left the session's registers alone. -/
inductive PollEnds (k : Caller) (s t : State) (called : Out) : Prop
  | raises (fatal : t.fatal ≠ none) (stands : called = .next t)
  | returns (r : PollResult) (u : State) (answers : t = ended (answered r u)) (leaves : besidePoll u = besidePoll s)
      (reacts : called = runTask 1 (pollReturns k r u))

theorem runTask_pollReturns (k : Caller) (r : PollResult) (u : State) (n : Nat) :
    runTask (n + 1) (pollReturns k r u) = runTask 1 (pollReturns k r u) := by
  have hlt : remaining (pollReturns k r u) < 2 := by
    rw [← seqReturn_eq_pollReturns]
    exact (seqReturn_proceeds u k r).remaining_lt Nat.two_pos
  exact runTask_of_enough (by omega) (by omega)

/-- Step by step the two polls are the same up to their return; the one called by the session may take one step more after it. -/
theorem runTask_pollEnds {n : Nat} {p : SeqPoint} (h : runTask n (standing (.seq .direct p) s) = .next t) (hend : t.task = none) :
    PollEnds k s t (runTask (n + 1) (standing (.seq k p) s)) := by
  induction n generalizing p s with
  | zero => cases h; cases hend
  | succ n ih =>
    have hstep := seqStep_pollStep p s
    generalize hf : (fun k => seqStep k p s) = f at hstep
    have hf' (k : Caller) : taskStep (.seq k p) (standing (.seq k p) s) = f k :=
      (seqStep_standing k p _ s).trans (congrFun hf k)
    have htakes {k : Caller} {u : State} (m : Nat) (hu : f k = .next u) :
        runTask (m + 1) (standing (.seq k p) s) = runTask m u := runTask_of_step m rfl ((hf' k).trans hu)
    have hreturns (r : PollResult) (u : State) (hr : ∀ k, f k = .next (seqReturn k r u)) (leaves : besidePoll u = besidePoll s) :
        PollEnds k s t (runTask (n + 2) (standing (.seq k p) s)) := by
      rw [htakes n (hr .direct), seqReturn_eq_pollReturns, runTask_of_none n rfl] at h
      rw [htakes (n + 1) (hr k), seqReturn_eq_pollReturns]
      cases h
      exact .returns r u rfl leaves (runTask_pollReturns k r u n)
    cases hstep with
    | guard r =>
      rw [runTask_of_fault n rfl (hf' .direct)] at h
      cases h
    | goesOn q u leaves =>
      rw [htakes n rfl] at h
      rw [htakes (n + 1) rfl]
      cases ih h with
      | raises fatal stands => exact .raises fatal stands
      | returns r v answers leaves' reacts => exact .returns r v answers (leaves'.trans leaves) reacts
    | queueFull u leaves =>
      rw [htakes n rfl, runTask_of_none n rfl] at h
      rw [htakes (n + 1) rfl, runTask_of_none (n + 1) rfl]
      cases h
      exact .raises (Option.some_ne_none _) rfl
    | waits u leaves tag => exact hreturns .wouldBlock u (fun _ => rfl) leaves
    | finishes r u result leaves tag => exact hreturns r u (fun _ => rfl) leaves

theorem Polls.sessionEnters (h : Polls s k) (hun : s.build.role = .leader → s.ldr.failTmo.armed = false) :
    sessionEnters s = pollBegins k s := by
  cases h with
  | ldrSendData role state | ldrSendPing role state => rw [sessionEnters_leader role (hun role), leaderEnters, state]
  | flwSend role state => rw [Machine.sessionEnters, role, state]

/-- An uninterrupted SESSION_POLL that polls is the direct SEQ_POLL with the session's reaction in the place of its answer. -/
theorem Polls.pollEnds (hpolls : Polls s k) (hfree : SessionFree s) (hun : s.build.role = .leader → s.ldr.failTmo.armed = false)
    (h : exec .seqPoll s = .next t) : PollEnds k s t (exec .sessionPoll s) := by
  obtain ⟨hlive, htask, -⟩ := hfree.1
  have hfuel : s.q.status.length + 7 ≤ taskFuel s + 1 := by unfold taskFuel; omega
  rw [exec_sessionPoll_free hfree hfuel, hpolls.sessionEnters hun]
  by_cases htag : s.seq.tag = .inactive
  · rw [exec_seqPoll_inactive hlive htask htag] at h
    rw [pollBegins, if_pos htag, runTask_fatalEnd _ _ htask]
    cases h
    exact .raises (Option.some_ne_none _) rfl
  · rw [exec_seqPoll_stage hlive htask htag rfl] at h
    rw [← seqStart_eq_pollBegins, seqStart, if_neg htag]
    exact runTask_pollEnds h (runTask_ends (remaining_le_taskFuel (standing _ s)) h)

theorem exec_seqPoll_ends (hfree : SessionFree s) (h : exec .seqPoll s = .next t) : t.task = none := by
  obtain ⟨hlive, htask, -⟩ := hfree.1
  rw [exec_seqPoll_start hlive htask] at h
  have hlt := (seqStart_proceeds s .direct).remaining_lt (by omega)
  exact runTask_ends (by unfold taskFuel; omega) h

theorem pollReturns_ended (k : Caller) (r : PollResult) (u : State) : pollReturns k r (ended u) = pollReturns k r u := by
  cases k <;> cases r <;> rfl

/-- The session reacts to the answer `r` of a poll that has raised nothing, in the state the direct call left but for its result. -/
theorem Polls.reacts (hpolls : Polls s k) (hfree : SessionFree s) (hun : s.build.role = .leader → s.ldr.failTmo.armed = false)
    (h : exec .seqPoll s = .next t) (hlive : t.fatal = none) {r : PollResult} (hr : t.result = .poll r) :
    exec .sessionPoll s = runTask 1 (pollReturns k r { t with result := s.result }) := by
  cases hpolls.pollEnds hfree hun h with
  | raises fatal stands => exact absurd hlive fatal
  | returns r' u answers leaves reacts =>
    have hresult : u.result = s.result := by
      simp only [besidePoll, Prod.mk.injEq] at leaves
      obtain ⟨-, -, -, -, hresult⟩ := leaves
      exact hresult
    subst answers
    cases hr
    rw [reacts, ← hresult, ← pollReturns_ended]
    rfl

end

/-! ### What the session's reactions come to (R262, R263, R265, R272) -/

/-- The ping timer is armed by a step of its own, with the way to WaitPing (R263). -/
theorem runTask_armPing {u : State} (htask : u.task = none) :
    runTask 1 (standing (.ldr .armPing) u) = .next { u with ldr := { u.ldr with pingTmo := armed u 500, state := .waitPing } } :=
  (runTask_of_step 0 rfl rfl).trans
    (runTask_ended (s := { u with ldr := { u.ldr with pingTmo := armed u 500, state := .waitPing } }) 0 htask)

/-- In both of its sending states the Leader reacts to an error by its class (46_session.md R265). -/
theorem pollReturns_leader_fail {k : Caller} (hk : k = .ldrSendData ∨ k = .ldrSendPing) (e : Error) (u : State) :
    pollReturns k (.fail e) u =
      if e ∈ [Error.txErrNoStatus, .txErrAckTmo, .txErrBusy, .txErrNak] then standing (.ldr .armFail) u
      else fatalEnd .leaderFatalTxError u := by
  rcases hk with rfl | rfl <;> rfl

theorem pollReturns_leader_wouldBlock {k : Caller} (hk : k = .ldrSendData ∨ k = .ldrSendPing) (u : State) :
    pollReturns k .wouldBlock u = ended u := by
  rcases hk with rfl | rfl <;> rfl

/-- Settles O42: SESSION_POLL is the direct SEQ_POLL and then `pollReturns`, which is read off answer by answer. -/
theorem sessionReactsToPoll : Obligations.SessionReactsToPoll := by
  intro s t hfree h
  have htask := exec_seqPoll_ends hfree h
  refine ⟨fun hfatal hsends => ?stands, fun hlive hrole hun hst => ?leader, fun hlive hrole hst => ?follower⟩
  case stands =>
    have hpolls : ∃ k, Polls s k ∧ (s.build.role = .leader → s.ldr.failTmo.armed = false) := by
      rcases hsends with ⟨hrole, hun, hst | hst⟩ | ⟨hrole, hst⟩
      · exact ⟨_, .ldrSendData hrole hst, fun _ => hun⟩
      · exact ⟨_, .ldrSendPing hrole hst, fun _ => hun⟩
      · exact ⟨_, .flwSend hrole hst, fun hldr => by rw [hrole] at hldr; cases hldr⟩
    obtain ⟨k, hpolls, hun⟩ := hpolls
    cases hpolls.pollEnds hfree hun h with
    | raises fatal stands => exact stands
    | returns r u answers leaves reacts =>
      subst answers
      exact absurd (live_of_besidePoll leaves hfree.1.1) hfatal
  case leader =>
    have hpolls : ∃ k, Polls s k ∧ (k = .ldrSendData ∨ k = .ldrSendPing) :=
      hst.elim (fun hst => ⟨_, .ldrSendData hrole hst, .inl rfl⟩) (fun hst => ⟨_, .ldrSendPing hrole hst, .inr rfl⟩)
    obtain ⟨k, hpolls, hk⟩ := hpolls
    refine ⟨fun hr => ?_, fun c hr hdata => ?_, fun c hr hping => ?_, fun e hr he => ?_, fun e hr he => ?_⟩
    · rw [hpolls.reacts hfree (fun _ => hun) h hlive hr, pollReturns_leader_wouldBlock hk]
      exact runTask_ended 1 htask
    · rw [(Polls.ldrSendData hrole hdata).reacts hfree (fun _ => hun) h hlive hr]
      exact runTask_ended (s := { t with result := s.result, ldr.state := .dispatch }) 1 htask
    · rw [(Polls.ldrSendPing hrole hping).reacts hfree (fun _ => hun) h hlive hr]
      exact runTask_armPing (u := { t with result := s.result }) htask
    · rw [hpolls.reacts hfree (fun _ => hun) h hlive hr, pollReturns_leader_fail hk, if_pos he]
      exact runTask_armFail (u := { t with result := s.result }) htask 0
    · rw [hpolls.reacts hfree (fun _ => hun) h hlive hr, pollReturns_leader_fail hk, if_neg he]
      exact runTask_fatalEnd 1 _ htask
  case follower =>
    have hreacts {r : PollResult} (hr : t.result = .poll r) :
        exec .sessionPoll s = runTask 1 (pollReturns .flwSend r { t with result := s.result }) :=
      (Polls.flwSend hrole hst).reacts hfree (fun hldr => by rw [hrole] at hldr; cases hldr) h hlive hr
    refine ⟨fun hr => ?_, fun c hr => ?_, fun e hr he => ?_, fun e hr he => ?_⟩ <;> rw [hreacts hr]
    · exact runTask_ended (s := { t with result := s.result }) 1 htask
    · exact runTask_ended (s := { t with result := s.result, flw := .wait }) 1 htask
    · rw [pollReturns, if_pos he]
      exact runTask_ended (s := { t with result := s.result, flw := .wait }) 1 htask
    · rw [pollReturns, if_neg he]
      exact runTask_fatalEnd 1 _ htask

end Sys2Proof.Machine
end

section
/-! PROOFS. Exceptions (60_exceptions.md), O13, O50, O51 and O60: the fatal state (R306); what one byte touches and can raise, case by case
(R307, R309); the calls refused and those left open (R308); and a task event that the environment interrupts and resumes (R315, R320,
R321). -/
namespace Sys2Proof.Machine

/-! ## The fatal state (R306) -/

section
variable {s : State} {r : FatalReason} (h : s.fatal = some r)
include h

theorem arriveFrame_of_fatal (c : Byte) (stx : Stx) (p : Bytes) : ∃ e, arriveFrame c stx p s = .refused e := by
  unfold arriveFrame
  split
  · exact ⟨_, ifLive_of_fatal h _⟩
  · exact ⟨_, rfl⟩

theorem execFrame_of_fatal (stx : Stx) (c : Byte) (p : Bytes) (lsb msb : Byte) : ∃ e, execFrame stx c p lsb msb s = .refused e := by
  unfold execFrame
  split
  · exact ⟨_, ifLive_of_fatal h _⟩
  · exact ⟨_, rfl⟩

/-- Every meaning but RESET's begins with the test of `fatal`; a row with too long a payload is refused before it. -/
theorem exec_of_fatal {i : Instr} (hi : i ≠ .reset) : ∃ e, exec i s = .refused e := by
  cases i
  case reset => exact absurd rfl hi
  case frame => exact execFrame_of_fatal h _ _ _ _ _
  case resetReq | resetCnf | resetInd | resetErr | mibWriteReq | mibWriteCnf | mibWriteUnused2 | mibWriteErr | mibEraseReq |
      mibEraseCnf | mibEraseUnused2 | mibEraseErr | pingReq | pingCnf | pingUnused2 | pingErr | phyReq | phyCnf | phyInd |
      phyErr | dlReq | dlCnf | dlInd | dlErr | commandReserved => exact arriveFrame_of_fatal h _ _ _
  case hdrReserved header _ => cases header <;> exact ⟨_, ifLive_of_fatal h _⟩
  all_goals exact ⟨_, ifLive_of_fatal h _⟩

end

/-! ## What one byte touches and can raise (R307, R309) -/

/-- Nothing raised but one of the framer's four queue-full faults or ALLOC_FAIL, at most one allocation draw, and nothing changed but what
the RX framer writes; by default nothing is raised or drawn. -/
structure RxTouches (s t : State) : Prop where
  fatal : t.fatal = s.fatal ∨ t.fatal = some .indQueueFull ∨ t.fatal = some .cnfQueueFull ∨ t.fatal = some .statusQueueFull ∨
    t.fatal = some .ackQueueFull ∨ t.fatal = some .allocFail := by exact .inl rfl
  draws : t.env.alloc = s.env.alloc ∨ t.env.alloc = s.env.alloc.tail := by exact .inl rfl
  others : t = { s with
    rx := t.rx, fatal := t.fatal, env.alloc := t.env.alloc,
    sig := { s.sig with ackWait := t.sig.ackWait, statusWait := t.sig.statusWait, pendingReply := t.sig.pendingReply,
                        txActive := t.sig.txActive, txIe := t.sig.txIe },
    q := { s.q with ind := t.q.ind, cnf := t.q.cnf, status := t.q.status, ack := t.q.ack } } := by rfl

/-- A write of the RX framer's own registers comes before. -/
theorem RxTouches.after_rx {s t : State} {rx : RxRegs} (h : RxTouches { s with rx := rx } t) : RxTouches s t :=
  ⟨h.fatal, h.draws, h.others⟩

section
variable (b : Byte) (s : State)

theorem rxFrameStart_touches : RxTouches s (rxFrameStart b s) := by
  by_cases hok : AllocOk s
  · rw [rxFrameStart_ok b hok]; exact { draws := .inr rfl }
  · rw [rxFrameStart_exhausted b hok]; exact { fatal := by simp, draws := .inr rfl }

theorem rxStatusMark_touches : RxTouches s (rxStatusMark s) := by
  unfold rxStatusMark
  split <;> exact {}

theorem rxRearm_touches : RxTouches s (rxRearm s) := by rw [rxRearm_eq]; exact {}

theorem received_touches (f : Frame) : RxTouches s (received f s) := by
  unfold received
  split_ifs
  · exact {}
  · exact { fatal := by simp }
  · exact {}
  · exact {}
  · exact { fatal := by simp }

theorem dropped_touches : RxTouches s (dropped s) := by
  unfold dropped
  split <;> exact {}

variable {s} (hlive : s.fatal = none)
include hlive

theorem rxReply_touches (r : Reply) : RxTouches s (rxReply r s) := by
  cases hwait : s.sig.ackWait with
  | true =>
    rcases Nat.lt_or_ge s.q.ack.length Config.capAck with hroom | hfull
    · rw [rxReply_queued hlive hwait hroom]; exact {}
    · rw [rxReply_full hwait hfull]; exact { fatal := by simp }
  | false =>
    rw [rxReply_unawaited hwait]
    split <;> exact {}

theorem rxFirstByte_touches : RxTouches s (rxFirstByte b s) := by
  unfold rxFirstByte
  split
  · exact rxReply_touches hlive _
  · exact rxStatusMark_touches s
  · exact rxFrameStart_touches b s
  · exact {}

theorem rxStatusValue_touches : RxTouches s (rxStatusValue b s) := by
  rcases Nat.lt_or_ge s.q.status.length Config.capStatus with hroom | hfull
  · rw [rxStatusValue_queued hlive hroom]; exact {}
  · rw [rxStatusValue_full hfull]; exact { fatal := by simp }

theorem rxChecksumMsb_touches : RxTouches s (rxChecksumMsb b s) := by
  rw [rxChecksumMsb_eq b hlive]
  split
  · exact (received_touches (frameClosed s) _).after_rx
  · exact (dropped_touches (frameClosed s)).after_rx

theorem rxDispatch_touches : RxTouches s (rxDispatch b s) := by
  unfold rxDispatch
  split
  case h_1 => exact rxFirstByte_touches b hlive
  case h_2 => exact rxStatusValue_touches b hlive
  case h_7 => exact rxChecksumMsb_touches b hlive
  all_goals exact (rxRearm_touches _).after_rx

theorem rxByte_touches : RxTouches s (rxByte b s) := by
  cases hexp : expired s s.rx.tmo with
  | true => rw [rxByte_of_expired hexp]; exact (rxDispatch_touches (s := frameClosed s) b hlive).after_rx
  | false => rw [rxByte_of_quiet hexp]; exact rxDispatch_touches b hlive

end

/-! ## Calls refused, and calls left open (R308) -/

section
variable {s : State} (hlive : s.fatal = none)
include hlive

theorem exec_txReady_disabled (h : s.sig.txIe = false ∨ s.uart.thrEmpty = false) : exec .txReady s = .refused .notEnabled := by
  have hdisabled : txReadyEnabled s = false := Bool.and_eq_false_iff.mpr h
  exact (ifLive_of_live hlive _).trans (if_neg (by simp [hdisabled]))

/-- The frame an idle sequencer takes in place of no well-formed request is the free value (log entry 23). -/
theorem exec_seqEnqueue_unstated {f : Frame} {tag : SenderTag} (htag : tag ≠ .inactive)
    (hf : frameWf f = false ∨ f.start ≠ 0x02) (hidle : seqIdle s = true) :
    exec (.seqEnqueue f tag) s = .next { s with
      seq.tag := tag, seq.frame := some (unstatedRequest s.env.unstated), env.unstated := s.env.unstated + 1 } := by
  have hnoRequest : ¬ (frameWf f && f.start = Config.stxRequest) = true := by
    rcases hf with hf | hf <;> simp_all [Config.stxRequest]
  have hidle' : seqIdle { s with env.unstated := s.env.unstated + 1 } = true := hidle
  change execSeqEnqueue f tag s = _
  rw [execSeqEnqueue, ifLive_of_live hlive, if_neg htag, if_neg hnoRequest, if_pos hidle, seqEnqueue, if_pos hidle']

theorem exec_timeout_absent {t : TimeoutId} (h : timeoutExists t s = false) (ms : Word16) :
    exec (.timeoutSet t ms) s = .refused .absentTimeout ∧ exec (.timeoutExpired t) s = .refused .absentTimeout ∧
      exec (.timeoutDisarm t) s = .refused .absentTimeout := by
  have habsent : ¬ timeoutExists t s = true := by simp [h]
  exact ⟨(ifLive_of_live hlive _).trans (if_neg habsent), (ifLive_of_live hlive _).trans (if_neg habsent),
    (ifLive_of_live hlive _).trans (if_neg habsent)⟩

/-- A second consumer of a queue while a task event is in progress (20_memory.md R70; log entry 12). -/
theorem exec_secondConsumer {p : TaskPoint} (htask : s.task = some p) :
    exec .seqPoll s = .next (raise .spscViolation s) ∧ exec .drvReceiveFrame s = .next (raise .spscViolation s) := by
  constructor
  · change execSeqPoll s = _
    rw [execSeqPoll, ifLive_of_live hlive, htask]
  · change execDrvReceiveFrame s = _
    rw [execDrvReceiveFrame, ifLive_of_live hlive, htask]

end

/-! ## A run cut in two -/

theorem Proceeds.event_of_task {init : Bool} {n : Nat} {s t : State} {p : TaskPoint} (h : Proceeds init n s t)
    (hp : t.task = some p) : ofInit p = init := by
  cases h with
  | ends ended => rw [ended] at hp; cases hp
  | stands q task event => rwa [Option.some.inj (task.symm.trans hp)] at event

/-- What is left of a run after its first `n` primitive steps. -/
theorem runTask_add {n : Nat} {s t : State} (h : runTask n s = .next t) (m : Nat) : runTask (n + m) s = runTask m t := by
  induction n generalizing s with
  | zero => cases h; rw [Nat.zero_add]
  | succ n ih =>
    rcases runTask_succ_cases n s with ⟨hnone, he⟩ | ⟨p, u, hp, hstep, he⟩ | ⟨_, _, _, _, he⟩ | ⟨_, _, _, _, he⟩ <;> rw [he] at h
    · cases h
      rw [runTask_of_none _ hnone, runTask_of_none _ hnone]
    · rw [Nat.add_right_comm, runTask_of_step _ hp hstep, ih h]
    · cases h
    · cases h

/-- No point of a run belongs to another event than the first one. -/
theorem runTask_event {e : Instr} {n : Nat} {s t : State} (hs : ∀ p, s.task = some p → resumes p = e)
    (h : runTask n s = .next t) : ∀ p, t.task = some p → resumes p = e := by
  refine runTask_keeps (P := fun u => ∀ p, u.task = some p → resumes p = e) (fun p u v hp hu hstep q hq => ?_) n s t hs h
  have hsame : ofInit q = ofInit p := (taskStep_proceeds hstep).event_of_task hq
  rw [← hu p hp, resumes, resumes, hsame]

theorem runTask_preempt {n : Nat} {s t : State} (h : runTask n s = .next t) : t.env.preempt = s.env.preempt :=
  runTask_keeps (P := fun u => u.env.preempt = s.env.preempt)
    (fun _ _ _ _ hu hstep => (taskStep_preempt hstep).trans hu) n s t rfl h

/-! ## A task event that begins -/

theorem flwStart_scheduled (l : List Nat) (s : State) : flwStart (scheduled l s) = scheduled l (flwStart s) := by
  have hflw : (scheduled l s).flw = s.flw := rfl
  unfold flwStart
  rw [hflw]
  split
  · rfl
  · exact seqStart_scheduled l s _

theorem sessionStart_scheduled (l : List Nat) (s : State) : sessionStart (scheduled l s) = scheduled l (sessionStart s) := by
  simp only [sessionStart, scheduled_build]
  split
  · exact ite_scheduled rfl (ldrBody_scheduled l s)
  · exact flwStart_scheduled l s

theorem initStart_scheduled (l : List Nat) (s : State) : initStart (scheduled l s) = scheduled l (initStart s) := by
  have hinit : (scheduled l s).init = s.init := rfl
  unfold initStart
  rw [hinit]
  split <;> rfl

/-- Event `e` begins at `u`, whatever the preemption schedule: there it stands at a point of its own, or has ended at once. -/
structure BeginsAt (e : Instr) (s u : State) : Prop where
  runs (l : List Nat) : exec e (scheduled l s) = runPreemptible (scheduled l u)
  event {p : TaskPoint} (h : u.task = some p) : resumes p = e

section
variable {e : Instr} {s : State}

theorem begins_or_refused {u : State} {enabled : Bool}
    (hexec : ∀ l, exec e (scheduled l s) = if enabled then runPreemptible (scheduled l u) else .refused .notEnabled)
    (hevent : ∀ p, u.task = some p → resumes p = e) :
    (∀ l, exec e (scheduled l s) = .refused .notEnabled) ∨ ∃ u, BeginsAt e s u := by
  cases enabled with
  | true => exact .inr ⟨u, hexec, hevent _⟩
  | false => exact .inl hexec

/-- Where no task event is in progress, one begins, or is refused under every schedule (70_reset_and_hazards.md R343). -/
theorem taskEvent_begins (he : e = .sessionPoll ∨ e = .drvInit) (hlive : s.fatal = none) (htask : s.task = none) :
    (∀ l, exec e (scheduled l s) = .refused .notEnabled) ∨ ∃ u, BeginsAt e s u := by
  have htask' (l : List Nat) : (scheduled l s).task = none := htask
  rcases he with rfl | rfl
  · refine begins_or_refused (u := sessionStart s) (enabled := sessionEnabled s) (fun l => ?_) fun p hp => ?_
    · change execSessionPoll _ = _
      rw [execSessionPoll, ifLive_of_live (s := scheduled l s) hlive, htask', ← sessionStart_scheduled]
      rfl
    · rw [resumes, (sessionStart_proceeds s).event_of_task hp]; rfl
  · refine begins_or_refused (u := initStart s) (enabled := initEnabled s) (fun l => ?_) fun p hp => ?_
    · change execDrvInit _ = _
      rw [execDrvInit, ifLive_of_live (s := scheduled l s) hlive, htask', ← initStart_scheduled]
      rfl
    · rw [resumes, (initStart_proceeds htask).event_of_task hp]; rfl

/-- An event that is not interrupted runs with fuel enough to end. -/
theorem BeginsAt.exec_free {u : State} (h : BeginsAt e s u) (hfree : s.env.preempt = []) :
    exec e s = runTask (taskFuel u) (scheduled [] u) := by
  have hself : scheduled [] s = s := hfree ▸ scheduled_self s
  rw [← hself, h.runs, runPreemptible_of_free rfl]
  rfl

/-- An event interrupted after `n` primitive steps, and resumed, has the outcome of the uninterrupted one. -/
theorem BeginsAt.resumed {u t : State} {n : Nat} (h : BeginsAt e s u) (hfree : s.env.preempt = [])
    (ht : exec e (scheduled [n] s) = .next t) (htask : t.task ≠ none) (hlive : t.fatal = none) : exec e t = exec e s := by
  have hrun : runTask n (scheduled [] u) = .next t := by
    rw [h.runs, runPreemptible_of_budget rfl] at ht
    exact ht
  obtain ⟨p, hp⟩ := Option.ne_none_iff_exists'.mp htask
  have hpoint : resumes p = e := runTask_event (s := scheduled [] u) (fun _ => h.event) hrun p hp
  calc exec e t
    _ = runTask (taskFuel t) t := by
      rw [← hpoint, exec_resumes hlive hp, runPreemptible_of_free (runTask_preempt hrun)]
    _ = runTask (taskFuel u + taskFuel t) t :=
      runTask_of_enough (remaining_le_taskFuel t) ((remaining_le_taskFuel t).trans (Nat.le_add_left _ _))
    _ = runTask (n + (taskFuel u + taskFuel t)) (scheduled [] u) := (runTask_add hrun _).symm
    _ = runTask (taskFuel u) (scheduled [] u) := by
      have hfuel : remaining (scheduled [] u) ≤ taskFuel u := remaining_le_taskFuel u
      exact runTask_of_enough (by omega) hfuel
    _ = exec e s := (h.exec_free hfree).symm

end

/-! ## What comes in between -/

/-- What the events that may fall between two primitive steps leave (20_memory.md R72 (b)): the point where a task event stands with its
local values, the registers private to the task context, and what the environment has scheduled. -/
structure LeavesTask (s t : State) : Prop where
  task : t.task = s.task := by rfl
  preempt : t.env.preempt = s.env.preempt := by rfl
  trace : t.env.trace = s.env.trace := by rfl
  build : t.build = s.build := by rfl
  seq : t.seq = s.seq := by rfl
  ldr : t.ldr = s.ldr := by rfl
  flw : t.flw = s.flw := by rfl
  init : t.init = s.init := by rfl

theorem LeavesTask.trans {s u t : State} (h : LeavesTask s u) (g : LeavesTask u t) : LeavesTask s t where
  task := g.task.trans h.task
  preempt := g.preempt.trans h.preempt
  trace := g.trace.trans h.trace
  build := g.build.trans h.build
  seq := g.seq.trans h.seq
  ldr := g.ldr.trans h.ldr
  flw := g.flw.trans h.flw
  init := g.init.trans h.init

theorem RxTouches.leavesTask {s t : State} (h : RxTouches s t) : LeavesTask s t := by rw [h.others]; exact {}

theorem TxTouches.leavesTask {s t : State} (h : TxTouches s t) : LeavesTask s t := by rw [h.others]; exact {}

theorem deliver_leavesTask (bs : Bytes) (s : State) : LeavesTask s (deliver bs s) := by
  induction bs generalizing s with
  | nil => exact {}
  | cons b bs ih =>
    by_cases hlive : s.fatal = none
    · rw [deliver_cons hlive]
      exact (rxByte_touches b hlive).leavesTask.trans (ih _)
    · rw [deliver_of_fatal hlive]
      exact {}

section
variable {s t : State}

theorem arrive_next {bs : Bytes} (h : arrive bs s = .next t) : t = deliver bs s :=
  (Host.Outcome.next.inj (ifLive_next h).2).symm

theorem execFrame_next {stx : Stx} {c : Byte} {p : Bytes} {lsb msb : Byte} (h : execFrame stx c p lsb msb s = .next t) :
    t = deliver (stx.byte :: BitVec.ofNat 8 p.length :: c :: (p ++ [lsb, msb])) s := by
  unfold execFrame at h
  split at h
  · exact arrive_next h
  · cases h

theorem arriveFrame_next {c : Byte} {stx : Stx} {p : Bytes} (h : arriveFrame c stx p s = .next t) :
    t = deliver (serialise (commandFrame c stx p)) s := execFrame_next h

/-- A row that stands for wire bytes delivers them when it is not refused, whether or not its operands are well-formed. -/
theorem exec_wireRow_next {i : Instr} {bs : Bytes} (hrow : wireBytes s.build i = some bs) (h : exec i s = .next t) :
    t = deliver bs s := by
  cases i
  case rxByte b =>
    cases hrow
    obtain ⟨hlive, rfl⟩ := exec_rxByte_next h
    exact (deliver_singleton b hlive).symm
  case frame => cases hrow; exact execFrame_next h
  case stxRequest | stxIndication | ack | nak | stxStatus | statusSequence | desync => cases hrow; exact arrive_next h
  case resetReq | resetCnf | resetInd | resetErr | mibWriteReq | mibWriteCnf | mibWriteUnused2 | mibWriteErr | mibEraseReq |
      mibEraseCnf | mibEraseUnused2 | mibEraseErr | pingReq | pingCnf | pingUnused2 | pingErr | phyReq | phyCnf | phyInd |
      phyErr | dlReq | dlCnf | dlInd | dlErr | commandReserved => cases hrow; exact arriveFrame_next h
  all_goals cases hrow

theorem execUartShift_leavesTask (h : execUartShift s = .next t) : LeavesTask s t := by
  obtain ⟨-, h⟩ := ifLive_next h
  split at h <;> cases h
  exact {}

theorem execClockAdvance_leavesTask {n : Word32} (h : execClockAdvance n s = .next t) : LeavesTask s t := by
  obtain ⟨-, h⟩ := ifLive_next h
  split at h <;> cases h
  exact {}

theorem execHostOutPush_leavesTask {buf : Bytes} (h : execHostOutPush buf s = .next t) : LeavesTask s t := by
  obtain ⟨-, h⟩ := ifLive_next h
  split at h <;> cases h
  rcases enqueueUsbOut_cases buf s with ⟨_, he⟩ | ⟨_, he⟩ <;> rw [he] <;> exact {}

theorem execHostInPop_leavesTask (h : execHostInPop s = .next t) : LeavesTask s t := by
  obtain ⟨-, h⟩ := ifLive_next h
  cases h
  split <;> exact {}

theorem interrupts_leavesTask {i : Instr} (hi : interrupts s.build i) (h : exec i s = .next t) : LeavesTask s t := by
  rcases hi with hbytes | rfl | rfl | ⟨n, rfl⟩ | ⟨buf, rfl⟩ | rfl
  · obtain ⟨bs, hrow⟩ := Option.isSome_iff_exists.mp hbytes
    rw [exec_wireRow_next hrow h]
    exact deliver_leavesTask bs s
  · exact (txReady_touches (exec_txReady_next h)).leavesTask
  · exact execUartShift_leavesTask h
  · exact execClockAdvance_leavesTask h
  · exact execHostOutPush_leavesTask h
  · exact execHostInPop_leavesTask h

end

/-! ## The statements -/

/-- Settles O50: every meaning tests `fatal` but RESET's, which clears it. -/
theorem fatalStopsAllButReset : Obligations.FatalStopsAllButReset := by
  intro s r hfatal
  exact ⟨fun i => exec_of_fatal hfatal, resetEngine s, rfl, rfl⟩

/-- Settles O13, case by case in `rxDispatch_touches`. -/
theorem everyByteIsTaken : Obligations.EveryByteIsTaken := by
  intro b s hlive
  obtain ⟨hfatal, hdraws, hothers⟩ := rxByte_touches b hlive
  rw [hlive] at hfatal
  exact ⟨rxByte b s, exec_rxByte hlive b, hfatal, hdraws, hothers⟩

/-- Settles O51: each call's own test, and the free value for the frame that no rule states. -/
theorem refusedAndOpenCalls : Obligations.RefusedAndOpenCalls := by
  intro s hlive
  refine ⟨exec_txReady_disabled hlive, fun f tag htag hf hst hinactive => ?_, fun t ms hrole ht => ?_, fun htask => ?_⟩
  · have hidle : seqIdle s = true := by simp [seqIdle, hst, hinactive]
    exact ⟨_, unstatedRequest_wf s.env.unstated, rfl, exec_seqEnqueue_unstated hlive htag hf hidle⟩
  · have habsent : timeoutExists t s = false := by rcases ht with rfl | rfl <;> simp [timeoutExists, hrole]
    exact exec_timeout_absent hlive habsent ms
  · obtain ⟨p, hp⟩ := Option.ne_none_iff_exists'.mp htask
    exact exec_secondConsumer hlive hp

/-- Settles O60: an interrupted event is a run cut in two, since no primitive step reads the schedule; and each event that may come in
between writes nothing of the task context's own. -/
theorem preemptedTaskEventResumes : Obligations.PreemptedTaskEventResumes := by
  refine ⟨fun e n s ⟨hlive, htask, hfree⟩ he => ?_, fun i s t hi h => ?_⟩
  · rcases taskEvent_begins he hlive htask with hrefused | ⟨u, hbegins⟩
    · have hself : scheduled [] s = s := hfree ▸ scheduled_self s
      refine ⟨fun t h => ?_, fun t h => ?_⟩
      · rw [← hself, hrefused] at h; cases h
      · cases (hrefused [n]).symm.trans h
    · refine ⟨fun t h => ?_, fun t => hbegins.resumed hfree⟩
      rw [hbegins.exec_free hfree] at h
      exact runTask_ends (s := scheduled [] u) (remaining_le_taskFuel u) h
  · obtain ⟨htask, hpreempt, htrace, hbuild, hseq, hldr, hflw, hinit⟩ := interrupts_leavesTask hi h
    exact ⟨htask, hpreempt, htrace, hbuild, hseq, hldr, hflw, hinit⟩

end Sys2Proof.Machine
end

section
/-! PROOFS. The bounds on q_status and q_ack (70_reset_and_hazards.md R352, R363), O58: what the session leaves of the two queues and of
their faults; the bounds at each primitive step of SEQ_POLL and at each received byte; then every instruction. -/
namespace Sys2Proof.Machine

/-! ## Who takes no status and no reply -/

/-- Neither of the two faults that R352 and R363 rule out (60_exceptions.md R307, F3 and F4). -/
def RepliesFit (fatal : Option FatalReason) : Prop := fatal ≠ some .statusQueueFull ∧ fatal ≠ some .ackQueueFull

/-- What of the two queues is written by SEQ_POLL (45_sequencer.md R232, R233, R236) and RX_BYTE (42_rx_framer.md R151, R155) alone. -/
structure RepliesLeft (s t : State) : Prop where
  status : t.q.status = s.q.status := by rfl
  ack : t.q.ack = s.q.ack := by rfl
  fit : RepliesFit s.fatal → RepliesFit t.fatal := by simp [RepliesFit]

theorem RepliesLeft.trans {s u t : State} (h : RepliesLeft s u) (g : RepliesLeft u t) : RepliesLeft s t where
  status := g.status.trans h.status
  ack := g.ack.trans h.ack
  fit := g.fit ∘ h.fit

section
variable (s : State)

theorem seqStart_replies (k : Caller) : RepliesLeft s (seqStart k s) := by
  unfold seqStart
  split <;> exact {}

theorem seqReturn_replies (k : Caller) (r : PollResult) : RepliesLeft s (seqReturn k r s) := by
  unfold seqReturn
  repeat' split
  all_goals exact {}

theorem inbound_replies (put : TaskPoint) : RepliesLeft s (inbound put s) := by
  obtain ⟨ok, alloc, h⟩ := drawAlloc_answer s
  unfold inbound
  rw [h]
  cases ok <;> exact {}

/-- A builder's own fatal reasons (44_driver.md, opening). -/
theorem buildFrame_reasons {fits : Bool} {command : Byte} {p : Bytes} {tag : SenderTag} {s t : State} {r : FatalReason}
    (h : buildFrame fits command p tag s = (.fatal r, t)) : r = .allocFail ∨ r = .frameInvariant := by
  rcases buildFrame_cases fits command p tag s with ⟨_, he⟩ | ⟨_, _, he⟩ | ⟨_, _, _, _, he⟩ | ⟨_, _, _, he⟩ <;>
    rw [he] at h <;> cases h <;> simp

/-- And those of SEND_APP (46_session.md R267). -/
theorem sendApp_reasons {app : Bytes} {s t : State} {r : FatalReason} (h : sendApp app s = .fatal r t) :
    r = .allocFail ∨ r = .frameInvariant ∨ r = .seqEnqueueBusy := by
  unfold sendApp at h
  split at h
  · cases h
  case h_2 hbuilt =>
    cases h
    unfold buildData at hbuilt
    split at hbuilt <;> exact (buildFrame_reasons hbuilt).imp_right .inl
  · split at h <;> cases h
    exact .inr (.inr rfl)

theorem sendApp_repliesFit {app : Bytes} {s t : State} {r : FatalReason} (h : sendApp app s = .fatal r t) :
    RepliesFit (some r) := by
  rcases sendApp_reasons h with rfl | rfl | rfl <;> simp [RepliesFit]

theorem ldrSend_replies (app : Bytes) (next : LdrState) : RepliesLeft s (ldrSend app next s) := by
  obtain ⟨alloc, ⟨e, h⟩ | ⟨r, h⟩ | ⟨f, tag, -, -, h⟩⟩ := sendApp_cases app s <;> simp only [ldrSend, h]
  · exact {}
  · exact { fit := fun _ => sendApp_repliesFit h }
  · exact {}

theorem flwReply_replies (app : Bytes) : RepliesLeft s (flwReply app s) := by
  obtain ⟨alloc, ⟨e, h⟩ | ⟨r, h⟩ | ⟨f, tag, -, -, h⟩⟩ := sendApp_cases app s <;> simp only [flwReply, h]
  · exact {}
  · exact { fit := fun _ => sendApp_repliesFit h }
  · exact {}

theorem ldrOnApp_replies (app : Bytes) : RepliesLeft s (ldrOnApp app s) := by
  unfold ldrOnApp
  split
  · exact {}
  split
  case h_2 => exact inbound_replies s _
  all_goals exact {}

theorem flwOnApp_replies (app : Bytes) : RepliesLeft s (flwOnApp app s) := by
  unfold flwOnApp
  split
  · exact {}
  split
  case h_1 => exact inbound_replies s _
  case h_2 => split <;> exact {}
  all_goals exact {}

theorem onApp_replies (app : Bytes) : RepliesLeft s (onApp app s) := by
  unfold onApp
  split
  · exact ldrOnApp_replies s app
  · exact flwOnApp_replies s app

theorem ldrBody_replies : RepliesLeft s (ldrBody s) := by
  unfold ldrBody
  split
  case h_2 | h_3 => exact seqStart_replies s _
  all_goals exact {}

theorem sessionStart_replies : RepliesLeft s (sessionStart s) := by
  unfold sessionStart ldrStart flwStart
  repeat' split
  · exact {}
  · exact ldrBody_replies s
  · exact {}
  · exact seqStart_replies s _

theorem initStart_replies : RepliesLeft s (initStart s) := by
  unfold initStart
  split <;> exact {}

theorem initStep_replies (p : InitPoint) : RepliesLeft s (initStep p s) := by
  cases p <;> unfold initStep
  case checkLow | checkPoll => dsimp only; split <;> exact {}
  case takeInd =>
    obtain ⟨f, ind, h⟩ := receiveFrame_answer s
    simp only [h]
    cases f <;> exact {}
  all_goals exact {}

theorem ldrStep_replies (p : LdrPoint) : RepliesLeft s (ldrStep p s) := by
  cases p <;> unfold ldrStep
  case armFail | armPing => exact {}
  case checkBackoff | checkPing => dsimp only; split <;> exact {}
  case disarmBackoff => exact RepliesLeft.trans {} (ldrBody_replies _)
  case takeOut =>
    dsimp only
    split
    · exact RepliesLeft.trans {} (ldrSend_replies _ _ _)
    · split
      · exact ldrSend_replies s _ _
      · exact {}
  case takeInd =>
    obtain ⟨f, ind, h⟩ := receiveFrame_answer s
    simp only [h]
    cases f with
    | none => exact {}
    | some f => exact RepliesLeft.trans {} (ldrOnApp_replies _ _)
  case putIn d =>
    obtain ⟨usbIn, h⟩ := enqueueUsbIn_answer d s
    simp only [h]
    exact {}

theorem flwStep_replies (p : FlwPoint) : RepliesLeft s (flwStep p s) := by
  cases p <;> unfold flwStep
  case takeInd =>
    obtain ⟨f, ind, h⟩ := receiveFrame_answer s
    simp only [h]
    cases f with
    | none => exact {}
    | some f => exact RepliesLeft.trans {} (flwOnApp_replies _ _)
  case putIn d =>
    obtain ⟨usbIn, h⟩ := enqueueUsbIn_answer d s
    simp only [h]
    exact {}
  case takeOut =>
    dsimp only
    split
    · exact RepliesLeft.trans {} (flwReply_replies _ _)
    · exact flwReply_replies s _

end

/-- A primitive step outside SEQ_POLL is a move of the session or of DRV_INIT, and takes no status and no reply. -/
theorem taskStep_replies {p : TaskPoint} {s t : State} (hpoll : ∀ k q, p ≠ .seq k q) (h : taskStep p s = .next t) :
    RepliesLeft s t := by
  cases p with
  | init p => cases h; exact initStep_replies s p
  | seq k q => exact absurd rfl (hpoll k q)
  | ldr p => cases h; exact ldrStep_replies s p
  | flw p => cases h; exact flwStep_replies s p

/-! ## What SEQ_POLL takes -/

/-- What a primitive step of SEQ_POLL leaves of q_status (45_sequencer.md R232, R233). -/
def statusAfter : SeqPoint → Bytes → Bytes
  | .drain, q | .takeStatus, q => q.tail
  | _, q => q

/-- What a primitive step of SEQ_POLL leaves of q_ack (45_sequencer.md R236). -/
def ackAfter : SeqPoint → List Reply → List Reply
  | .takeAck, q => q.tail
  | _, q => q

/-- What a primitive step of SEQ_POLL does to the two queues and to their faults. -/
structure PollTakes (p : SeqPoint) (s t : State) : Prop where
  status : t.q.status = statusAfter p s.q.status := by rfl
  ack : t.q.ack = ackAfter p s.q.ack := by rfl
  fit : RepliesFit s.fatal → RepliesFit t.fatal := by simp [RepliesFit]

theorem PollTakes.then {p : SeqPoint} {s u t : State} (h : PollTakes p s u) (g : RepliesLeft u t) : PollTakes p s t where
  status := g.status.trans h.status
  ack := g.ack.trans h.ack
  fit := g.fit ∘ h.fit

theorem PollTakes.returns {p : SeqPoint} {s u : State} (k : Caller) (r : PollResult) (h : PollTakes p s u := by exact {}) :
    PollTakes p s (seqReturn k r u) := h.then (seqReturn_replies u k r)

theorem PollTakes.finishes {p : SeqPoint} {s u : State} (k : Caller) (r : PollResult) (h : PollTakes p s u := by exact {}) :
    PollTakes p s (seqFinish k r u) := (h.then (t := seqToIdle u) {}).returns k r

theorem tail_of_dequeue_none {α : Type} {q : List α} (h : dequeue q = none) : q = q.tail := by
  cases q with
  | nil => rfl
  | cons => cases h

theorem tail_of_dequeue_some {α : Type} {q rest : List α} {v : α} (h : dequeue q = some (v, rest)) : rest = q.tail := by
  rw [dequeue_some h, List.tail_cons]

theorem seqStep_takes {k : Caller} {p : SeqPoint} {s t : State} (h : seqStep k p s = .next t) : PollTakes p s t := by
  cases p <;> unfold seqStep at h
  case clearDone | lineLow | armStatus | enableIrq | armAck => cases h; exact {}
  case setStatusWait | signalActive | setAckWait | armCnf => cases h; exact .returns k _
  case busyLine | noStatusLine => cases h; exact .finishes k _
  case drain | takeStatus =>
    dsimp only at h
    split at h <;> cases h
    · exact { status := tail_of_dequeue_some ‹_› }
    · exact { status := tail_of_dequeue_none ‹_› }
  case checkStatus | readDone =>
    cases h
    split
    · exact {}
    · exact .returns k _
  case release =>
    dsimp only at h
    split at h
    · cases h
    · split at h <;> cases h <;> exact {}
  case takeAck =>
    dsimp only at h
    split at h <;> cases h
    · exact .finishes k _ { ack := tail_of_dequeue_some ‹_› }
    · exact { ack := tail_of_dequeue_some ‹_› }
    · exact { ack := tail_of_dequeue_none ‹_› }
  case takeCnf =>
    dsimp only at h
    split at h <;> cases h
    · exact .finishes k _
    · exact {}
  case checkAck | checkCnf =>
    cases h
    split
    · exact .finishes k _
    · exact .returns k _

/-! ## The bounds -/

/-- What of a poll in progress the bounds read. -/
def awaitProgress (p : Option TaskPoint) : Bool × Bool := (pastDrain p, pastTakeAck p)

theorem NoPoll.awaitProgress {s : State} (h : NoPoll s) : awaitProgress s.task = (false, false) := by
  unfold NoPoll at h
  rcases hp : s.task with _ | _ | ⟨k, p⟩ | _ | _
  case some.seq => exact absurd hp (h k p)
  all_goals rfl

theorem NoPoll.not_pastDrain {s : State} (h : NoPoll s) : pastDrain s.task = false := congrArg Prod.fst h.awaitProgress

theorem NoPoll.not_pastTakeAck {s : State} (h : NoPoll s) : pastTakeAck s.task = false := congrArg Prod.snd h.awaitProgress

theorem seqEntry_awaitProgress (k : Caller) (st : SeqState) : awaitProgress (some (.seq k (seqEntry st))) = (false, false) := by
  cases st <;> rfl

/-- The statement's claim of a state: the bounds, and neither fault. -/
def RepliesSound (s : State) : Prop := StatusBounded s ∧ AckBounded s ∧ RepliesFit s.fatal

/-- The registers that the bounds speak of. -/
def awaits (s : State) : (Bytes × List Reply) × (Bool × Bool) × RxState × SeqState × Option TaskPoint :=
  ((s.q.status, s.q.ack), (s.sig.ackWait, s.sig.statusWait), s.rx.state, s.seq.state, s.task)

section
variable {s t : State}

/-- A move that queues or awaits no more than before, and leaves the sequencer's stage and the poll where they stand. -/
theorem RepliesSound.mono (hs : RepliesSound s) (status : statusLoad t ≤ statusLoad s) (ack : ackLoad t ≤ ackLoad s)
    (wait : t.rx.state = .statusValue → t.sig.statusWait = true) (fit : RepliesFit s.fatal → RepliesFit t.fatal)
    (state : t.seq.state = s.seq.state) (progress : awaitProgress t.task = awaitProgress s.task) : RepliesSound t := by
  obtain ⟨⟨htwo, hone, -⟩, ⟨hack, hackOne⟩, hfit⟩ := hs
  obtain ⟨hdrain, htake⟩ : pastDrain t.task = pastDrain s.task ∧ pastTakeAck t.task = pastTakeAck s.task := by
    simpa [awaitProgress] using progress
  have hackOne' (h : t.seq.state ≠ .waitAck ∨ pastTakeAck t.task = true) : ackLoad s ≤ 1 := hackOne (by rwa [← state, ← htake])
  exact ⟨⟨status.trans htwo, fun h => status.trans (hone (hdrain ▸ h)), wait⟩,
    ⟨ack.trans hack, fun h => ack.trans (hackOne' h)⟩, fit hfit⟩

theorem RepliesSound.same (hs : RepliesSound s) (view : awaits t = awaits s := by rfl)
    (fit : RepliesFit s.fatal → RepliesFit t.fatal := by simp [RepliesFit]) : RepliesSound t := by
  obtain ⟨⟨hstatus, hack⟩, ⟨hackWait, hstatusWait⟩, hrx, hstate, htask⟩ :
    (t.q.status = s.q.status ∧ t.q.ack = s.q.ack) ∧ (t.sig.ackWait = s.sig.ackWait ∧ t.sig.statusWait = s.sig.statusWait) ∧
      t.rx.state = s.rx.state ∧ t.seq.state = s.seq.state ∧ t.task = s.task := by simpa [awaits] using view
  refine hs.mono ?_ ?_ ?_ fit hstate (by rw [htask])
  · rw [statusLoad, statusLoad, hstatus, hstatusWait]
  · rw [ackLoad, ackLoad, hack, hackWait]
  · rw [hrx, hstatusWait]; exact hs.1.2.2

/-! ## SEQ_POLL -/

section
variable {k : Caller} {p : SeqPoint}

theorem onward_pastDrain {p' : SeqPoint} (h : p' ∈ onward p) (hpast : pastDrain (some (.seq k p')) = true) :
    p = .drain ∨ p = .lineLow ∨ p = .armStatus := by
  cases p <;> simp only [onward, List.mem_cons, List.not_mem_nil, or_false] at h
  case drain | lineLow | armStatus => simp
  case takeStatus => rcases h with rfl | rfl | rfl <;> cases hpast
  case takeAck => rcases h with rfl | rfl <;> cases hpast
  all_goals subst h; cases hpast

/-- SEQ_POLL comes past its Drain from there, when q_status is empty, and leaves it with its stage (45_sequencer.md R232). -/
theorem seqStep_pastDrain (h : seqStep k p s = .next t) (hpast : pastDrain t.task = true) :
    (p = .drain ∧ s.q.status = []) ∨ p = .lineLow ∨ p = .armStatus := by
  have hpoll : ¬ NoPoll t := fun hpoll => by simp [hpoll.not_pastDrain] at hpast
  have hfrom : p = .drain ∨ p = .lineLow ∨ p = .armStatus := by
    obtain ⟨u, hmove, -, -⟩ := seqStep_cases h
    cases hmove with
    | goesOn p' next => exact onward_pastDrain next hpast
    | releases => cases hpast
    | queueFull => cases hpast
    | waits | advances => exact absurd (seqReturn_aside k _ u).task hpoll
    | finishes r => exact absurd (seqReturn_aside k r (seqToIdle u)).task hpoll
  refine hfrom.imp_left fun hdrain => ⟨hdrain, ?_⟩
  subst hdrain
  cases hq : s.q.status with
  | nil => rfl
  | cons v rest => cases h.symm.trans (taskStep_drain_cons k hq); cases hpast

theorem seqStep_sig (h : seqStep k p s = .next t) : t.sig = pollSignals p s.sig := by
  obtain ⟨u, hmove, -, hsig⟩ := seqStep_cases h
  exact hmove.leaves.2.trans hsig

theorem pollSignals_statusWait {g : Signals} (h : g.statusWait = true) : (pollSignals p g).statusWait = true := by
  cases p
  case setStatusWait => rfl
  all_goals exact h

theorem seqStep_statusLoad (h : seqStep k p s = .next t) (hset : p ≠ .setStatusWait) : statusLoad t ≤ statusLoad s := by
  have hlen : (statusAfter p s.q.status).length ≤ s.q.status.length := by cases p <;> simp [statusAfter]
  have hwait : (pollSignals p s.sig).statusWait = s.sig.statusWait := by
    cases p
    case setStatusWait => exact absurd rfl hset
    all_goals rfl
  rw [statusLoad, statusLoad, (seqStep_takes h).status, seqStep_sig h, hwait]
  exact Nat.add_le_add_right hlen _

theorem seqStep_ackLoad (h : seqStep k p s = .next t) (hset : p ≠ .setAckWait) : ackLoad t ≤ ackLoad s := by
  have hlen : (ackAfter p s.q.ack).length ≤ s.q.ack.length := by cases p <;> simp [ackAfter]
  have hwait : (pollSignals p s.sig).ackWait = s.sig.ackWait := by
    cases p
    case setAckWait => exact absurd rfl hset
    all_goals rfl
  rw [ackLoad, ackLoad, (seqStep_takes h).ack, seqStep_sig h, hwait]
  exact Nat.add_le_add_right hlen _

/-- A status byte is asked for only past the Drain, and a poll comes past it with q_status empty. -/
theorem seqStep_statusBounded (htask : s.task = some (.seq k p)) (hs : StatusBounded s) (h : seqStep k p s = .next t) :
    StatusBounded t := by
  obtain ⟨htwo, hone, hwait⟩ := hs
  rw [htask] at hone
  have hrx : t.rx = s.rx := (taskStep_leaves (p := .seq k p) h).rx
  refine ⟨?_, fun hpast => ?_, fun hst => ?_⟩
  · by_cases hset : p = .setStatusWait
    · subst hset
      have hle : s.q.status.length + s.sig.statusWait.toNat ≤ 1 := hone rfl
      rw [statusLoad, (seqStep_takes h).status, seqStep_sig h]
      change s.q.status.length + 1 ≤ 2
      omega
    · exact (seqStep_statusLoad h hset).trans htwo
  · rcases seqStep_pastDrain h hpast with ⟨rfl, hempty⟩ | rfl | rfl
    · refine (seqStep_statusLoad h (by simp)).trans ?_
      rw [statusLoad, hempty, List.length_nil, Nat.zero_add]
      exact Bool.toNat_le _
    · exact (seqStep_statusLoad h (by simp)).trans (hone rfl)
    · exact (seqStep_statusLoad h (by simp)).trans (hone rfl)
  · rw [seqStep_sig h]
    exact pollSignals_statusWait (hwait (hrx ▸ hst))

theorem ackBounded_of_le_one (h : ackLoad t ≤ 1) : AckBounded t := ⟨h.trans (by decide), fun _ => h⟩

/-- Of the points of WaitAck only the first is not past its Dequeue. -/
theorem stageOf_ne_waitAck (h : p ≠ .takeAck) : stageOf p ≠ .waitAck ∨ pastTakeAck (some (.seq k p)) = true := by
  cases p
  case takeAck => exact absurd rfl h
  case armCnf | checkAck => exact .inr rfl
  all_goals exact .inl (by simp [stageOf])

theorem seqStep_setAckWait (h : seqStep k .setAckWait s = .next t) : t.seq.state = .waitAck ∧ NoPoll t := by
  cases h
  have hreturn := seqReturn_aside k .wouldBlock { s with sig.ackWait := true, seq.state := .waitAck }
  exact ⟨by rw [hreturn.seq], hreturn.task⟩

/-- A reply is asked for only at the end of WaitTxFrameDone, and a poll in WaitAck takes one where one is queued. -/
theorem seqStep_ackBounded (htask : s.task = some (.seq k p)) (hseq : SeqCoherent s) (hs : AckBounded s)
    (h : seqStep k p s = .next t) : AckBounded t := by
  obtain ⟨htwo, hone⟩ := hs
  rw [htask, state_of_standing htask hseq] at hone
  by_cases hset : p = .setAckWait
  · subst hset
    obtain ⟨hstate, hpoll⟩ := seqStep_setAckWait h
    have hle : s.q.ack.length + s.sig.ackWait.toNat ≤ 1 := hone (.inl (by simp [stageOf]))
    refine ⟨?_, by simp [hstate, hpoll.not_pastTakeAck]⟩
    rw [ackLoad, (seqStep_takes h).ack, seqStep_sig h]
    change s.q.ack.length + 1 ≤ 2
    omega
  refine ackBounded_of_le_one ?_
  by_cases htake : p = .takeAck
  · subst htake
    have hwait := Bool.toNat_le s.sig.ackWait
    rw [ackLoad] at htwo
    rw [ackLoad, (seqStep_takes h).ack, seqStep_sig h]
    change s.q.ack.tail.length + s.sig.ackWait.toNat ≤ 1
    rw [List.length_tail]
    omega
  · exact (seqStep_ackLoad h hset).trans (hone (stageOf_ne_waitAck htake))

theorem seqStep_repliesSound (htask : s.task = some (.seq k p)) (hseq : SeqCoherent s) (hs : RepliesSound s)
    (h : seqStep k p s = .next t) : RepliesSound t :=
  ⟨seqStep_statusBounded htask hs.1 h, seqStep_ackBounded htask hseq hs.2.1 h, (seqStep_takes h).fit hs.2.2⟩

end

/-! ## The session and DRV_INIT -/

/-- A move of the session or of DRV_INIT leaves the sequencer's stage, and at most begins a poll at the first step of it. -/
theorem SessionMove.keeps_repliesSound (h : SessionMove s t) (hpoll : NoPoll s) (left : RepliesLeft s t) (hs : RepliesSound s) :
    RepliesSound t := by
  refine hs.mono ?status ?ack ?wait left.fit ?state ?progress
  case status => rw [statusLoad, statusLoad, left.status, h.sig]
  case ack => rw [ackLoad, ackLoad, left.ack, h.sig]
  case wait => rw [h.leaves.rx, h.sig]; exact hs.1.2.2
  case state =>
    cases h.control with
    | leaves seq | polls _ _ seq => rw [seq]
    | takes f tag idle active seq => rw [seq]
  case progress =>
    rw [hpoll.awaitProgress]
    cases h.control with
    | leaves _ task => exact task.awaitProgress
    | takes f tag idle active seq task => exact (noPoll_of_none task).awaitProgress
    | polls k _ _ task => rw [task]; exact seqEntry_awaitProgress k _

theorem taskStep_repliesSound {p : TaskPoint} (htask : s.task = some p) (hseq : SeqCoherent s) (hs : RepliesSound s)
    (h : taskStep p s = .next t) : RepliesSound t := by
  rcases taskStep_cases h with ⟨k, q, _, rfl, _, _, _⟩ | ⟨hp, hmove⟩
  · exact seqStep_repliesSound htask hseq hs h
  · exact hmove.keeps_repliesSound (by simpa [NoPoll, htask] using hp) (taskStep_replies hp h) hs

/-! ### Runs of primitive steps -/

/-- What a run of primitive steps keeps: the claim, and the sequencer's invariant that it rests on. -/
def RepliesRun (s : State) : Prop := SeqCoherent s ∧ RepliesSound s

theorem SessionMove.begins_repliesRun (h : SessionMove s t) (left : RepliesLeft s t) (htask : s.task = none)
    (hs : RepliesRun s) : RepliesRun t :=
  ⟨h.keeps_seqCoherent (noPoll_of_none htask) hs.1, h.keeps_repliesSound (noPoll_of_none htask) left hs.2⟩

theorem taskStep_keeps_repliesRun {p : TaskPoint} (htask : s.task = some p) (hs : RepliesRun s) (h : taskStep p s = .next t) :
    RepliesRun t :=
  ⟨taskStep_keeps_seqCoherent htask hs.1 h, taskStep_repliesSound htask hs.1 hs.2 h⟩

theorem runTask_repliesSound (n : Nat) (hs : RepliesRun s) : Yields RepliesSound (runTask n s) := fun t h =>
  (runTask_keeps (P := RepliesRun) (fun _ _ _ => taskStep_keeps_repliesRun) n s t hs h).2

section
variable (hs : RepliesRun s)
include hs

theorem runPreemptible_repliesSound : Yields RepliesSound (runPreemptible s) := by
  unfold runPreemptible
  split
  · exact runTask_repliesSound _ hs
  · exact runTask_repliesSound _ ⟨hs.1.of_eq rfl rfl, hs.2.same⟩

theorem execSessionPoll_repliesSound : Yields RepliesSound (execSessionPoll s) := by
  refine yields_ifLive fun _ => ?_
  split
  · exact yields_refused _
  · exact runPreemptible_repliesSound hs
  case h_3 htask =>
    split
    · exact runPreemptible_repliesSound ((sessionStart_move s).begins_repliesRun (sessionStart_replies s) htask hs)
    · exact yields_refused _

theorem execDrvInit_repliesSound : Yields RepliesSound (execDrvInit s) := by
  refine yields_ifLive fun _ => ?_
  split
  · exact runPreemptible_repliesSound hs
  · exact yields_refused _
  case h_3 htask =>
    split
    · exact runPreemptible_repliesSound ((initStart_move htask).begins_repliesRun (initStart_replies s) htask hs)
    · exact yields_refused _

theorem execSeqPoll_repliesSound : Yields RepliesSound (execSeqPoll s) := by
  refine yields_ifLive fun _ => ?_
  split
  · exact yields_next hs.2.same
  case h_2 htask =>
    exact runTask_repliesSound _ ((seqStart_move .direct s).begins_repliesRun (seqStart_replies s _) htask hs)

theorem readApp_repliesSound (app : Bytes) : Yields RepliesSound (readApp app s) := by
  refine yields_ifLive fun _ => ?_
  split
  · exact yields_refused _
  case isFalse hreads =>
    have htask : s.task = none := task_of_readsHeaders (by simpa using hreads)
    split
    · exact runTask_repliesSound _ ((onApp_move app s).begins_repliesRun (onApp_replies s app) htask hs)
    · exact yields_refused _

end

/-! ## Reception -/

/-- What a received byte does to the two queues, to what is awaited and to the two faults. -/
structure Delivers (s t : State) : Prop where
  status : statusLoad t ≤ statusLoad s := by exact le_rfl
  ack : ackLoad t ≤ ackLoad s := by exact le_rfl
  wait : t.rx.state = .statusValue → t.sig.statusWait = true := by simp
  fit : RepliesFit s.fatal → RepliesFit t.fatal := by simp [RepliesFit]

/-- A write of the RX framer's own registers comes before. -/
theorem Delivers.after_rx {rx : RxRegs} (h : Delivers { s with rx := rx } t) : Delivers s t := ⟨h.status, h.ack, h.wait, h.fit⟩

section
variable (b : Byte)

/-- A status byte moves from what is awaited to what is queued, and finds room for it. -/
theorem rxStatusValue_delivers (hlive : s.fatal = none) (hs : StatusBounded s) (hst : s.rx.state = .statusValue) :
    Delivers s (rxStatusValue b s) := by
  obtain ⟨htwo, -, hwait⟩ := hs
  rw [statusLoad, hwait hst] at htwo
  have hroom : s.q.status.length < Config.capStatus := htwo
  rw [rxStatusValue_queued hlive hroom]
  exact { status := by simp [statusLoad, hwait hst] }

/-- So does an ACK or a NAK. -/
theorem rxReply_delivers (r : Reply) (hlive : s.fatal = none) (hs : AckBounded s) (hst : s.rx.state = .firstByte) :
    Delivers s (rxReply r s) := by
  cases hwait : s.sig.ackWait with
  | true =>
    have htwo := hs.1
    rw [ackLoad, hwait] at htwo
    have hroom : s.q.ack.length < Config.capAck := htwo
    rw [rxReply_queued hlive hwait hroom]
    exact { ack := by simp [ackLoad, hwait], wait := by simp [hst] }
  | false =>
    rw [rxReply_unawaited hwait]
    split
    · exact { status := by simp [statusLoad], wait := by simp [hst] }
    · exact { wait := by simp [hst] }

theorem rxFirstByte_delivers (hlive : s.fatal = none) (hs : AckBounded s) (hst : s.rx.state = .firstByte) :
    Delivers s (rxFirstByte b s) := by
  unfold rxFirstByte
  split
  · exact rxReply_delivers _ hlive hs hst
  · unfold rxStatusMark
    split
    · exact { wait := fun _ => ‹_› }
    · exact { ack := by simp [ackLoad], wait := by simp [hst] }
  · obtain ⟨ok, alloc, h⟩ := drawAlloc_answer s
    unfold rxFrameStart
    rw [h]
    cases ok
    · exact { wait := by simp [hst] }
    · exact {}
  · exact { status := by simp [statusLoad], ack := by simp [ackLoad], wait := by simp [hst] }

theorem received_delivers (f : Frame) (hst : s.rx.state = .firstByte) : Delivers s (received f s) := by
  unfold received replied
  split_ifs <;> exact { wait := by simp [hst] }

theorem dropped_delivers (hst : s.rx.state = .firstByte) : Delivers s (dropped s) := by
  unfold dropped replied
  split <;> exact { wait := by simp [hst] }

theorem rxChecksumMsb_delivers (hlive : s.fatal = none) : Delivers s (rxChecksumMsb b s) := by
  rw [rxChecksumMsb_eq b hlive]
  split
  · exact (received_delivers (s := frameClosed s) _ rfl).after_rx
  · exact (dropped_delivers (s := frameClosed s) rfl).after_rx

theorem rxRearm_delivers (hst : s.rx.state ≠ .statusValue) : Delivers s (rxRearm s) := by
  rw [rxRearm_eq]
  exact { wait := fun h => absurd h hst }

theorem rxDispatch_delivers (hlive : s.fatal = none) (hs : RepliesSound s) : Delivers s (rxDispatch b s) := by
  obtain ⟨hstatus, hack, -⟩ := hs
  unfold rxDispatch
  split
  case h_1 hst => exact rxFirstByte_delivers b hlive hack hst
  case h_2 hst => exact rxStatusValue_delivers b hlive hstatus hst
  case h_3 | h_6 => exact (rxRearm_delivers (by simp)).after_rx
  case h_4 | h_5 => exact (rxRearm_delivers (by dsimp only; split <;> simp)).after_rx
  case h_7 => exact rxChecksumMsb_delivers b hlive

theorem rxByte_delivers (hlive : s.fatal = none) (hs : RepliesSound s) : Delivers s (rxByte b s) := by
  cases hexp : expired s s.rx.tmo with
  | true =>
    have hclosed : RepliesSound (frameClosed s) := hs.mono le_rfl le_rfl (by simp [frameClosed]) id rfl rfl
    rw [rxByte_of_expired hexp]
    exact (rxDispatch_delivers (s := frameClosed s) b hlive hclosed).after_rx
  | false => rw [rxByte_of_quiet hexp]; exact rxDispatch_delivers b hlive hs

theorem rxByte_repliesSound (hlive : s.fatal = none) (hs : RepliesSound s) : RepliesSound (rxByte b s) := by
  have hl := rxByte_leaves b s
  obtain ⟨hstatus, hack, hwait, hfit⟩ := rxByte_delivers b hlive hs
  exact hs.mono hstatus hack hwait hfit (by rw [hl.seq]) (by rw [hl.task])

/-- A byte is delivered only to a live engine (60_exceptions.md R306). -/
theorem deliver_repliesSound (bs : Bytes) (hs : RepliesSound s) : RepliesSound (deliver bs s) := by
  induction bs generalizing s with
  | nil => exact hs
  | cons b bs ih =>
    by_cases hlive : s.fatal = none
    · rw [deliver_cons hlive]
      exact ih (rxByte_repliesSound b hlive hs)
    · rwa [deliver_of_fatal hlive]

end

/-! ## The calls -/

theorem txReady_repliesSound (hs : RepliesSound s) : Yields RepliesSound (txReady s) := by
  intro t h
  rw [(txReady_touches h).others]
  exact hs.same

section
variable (hs : RepliesSound s)
include hs

theorem builder_repliesSound (fits : Bool) (command : Byte) (p : Bytes) (tag : SenderTag) :
    Yields RepliesSound (ifLive s (.next (buildResult (buildFrame fits command p tag s)))) := by
  obtain ⟨answer, alloc, h, -⟩ := buildFrame_answer fits command p tag s
  refine yields_ifLive fun _ => yields_next ?_
  rw [h]
  cases answer with
  | ok | err => exact hs.same rfl id
  | fatal r =>
    have hfit : RepliesFit (some r) := by rcases buildFrame_reasons h with rfl | rfl <;> simp [RepliesFit]
    exact hs.same rfl fun _ => hfit

theorem execDrvData_repliesSound (buf : Bytes) : Yields RepliesSound (execDrvData buf s) := by
  unfold execDrvData buildData
  split <;> exact builder_repliesSound hs _ _ _ _

theorem execDrvReceiveFrame_repliesSound : Yields RepliesSound (execDrvReceiveFrame s) := by
  obtain ⟨f, ind, h⟩ := receiveFrame_answer s
  refine yields_ifLive fun _ => yields_next ?_
  rw [h]
  split <;> exact hs.same

theorem execFrameNew_repliesSound (start length command : Byte) (payload : Bytes) :
    Yields RepliesSound (execFrameNew start length command payload s) := by
  refine yields_ifLive fun _ => yields_next ?_
  split <;> exact hs.same

theorem execSeqEnqueue_repliesSound (f : Frame) (tag : SenderTag) : Yields RepliesSound (execSeqEnqueue f tag s) := by
  intro t h
  obtain ⟨-, -, ⟨-, rfl⟩ | ⟨-, -, -, rfl⟩ | ⟨-, -, rfl⟩⟩ := execSeqEnqueue_next h <;> exact hs.same

theorem execHostOutPush_repliesSound (buf : Bytes) : Yields RepliesSound (execHostOutPush buf s) := by
  refine yields_ifLive fun _ => ?_
  split
  · refine yields_next ?_
    rcases enqueueUsbOut_cases buf s with ⟨_, h⟩ | ⟨_, h⟩ <;> rw [h] <;> exact hs.same
  · exact yields_refused _

theorem execHostInPop_repliesSound : Yields RepliesSound (execHostInPop s) := by
  refine yields_ifLive fun _ => yields_next ?_
  split <;> exact hs.same

theorem setTimeoutReg_repliesSound (id : TimeoutId) (v : Timeout) : RepliesSound (setTimeoutReg id v s) := by
  cases id <;> exact hs.same

end

end

/-! ## Every instruction -/

theorem exec_repliesSound (i : Instr) {s : State} (hseq : SeqCoherent s) (hs : RepliesSound s) : Yields RepliesSound (exec i s) := by
  rcases hrow : wireBytes s.build i with _ | bs
  case some => exact fun t h => exec_wireRow_next hrow h ▸ deliver_repliesSound bs hs
  cases i
  case txReady =>
    refine yields_ifLive fun _ => ?_
    split
    · exact txReady_repliesSound hs
    · exact yields_refused _
  case sessionPoll => exact execSessionPoll_repliesSound ⟨hseq, hs⟩
  case drvInit => exact execDrvInit_repliesSound ⟨hseq, hs⟩
  case seqPoll => exact execSeqPoll_repliesSound ⟨hseq, hs⟩
  case hdrIdle | hdrData | hdrPing => exact readApp_repliesSound ⟨hseq, hs⟩ _
  case hdrReserved header _ => cases header <;> exact readApp_repliesSound ⟨hseq, hs⟩ _
  case reset =>
    have hfit : RepliesFit (resetEngine s).fatal := by simp [RepliesFit, resetEngine, State.atReset]
    exact yields_next ⟨atReset_statusBounded _ _ _, atReset_ackBounded _ _ _, hfit⟩
  case seqEnqueue f tag => exact execSeqEnqueue_repliesSound hs f tag
  case drvResetReq | drvMibWrite | drvMibErase | drvPing | drvPhyData | drvDlData => exact builder_repliesSound hs _ _ _ _
  case drvData buf => exact execDrvData_repliesSound hs buf
  case drvReceiveFrame => exact execDrvReceiveFrame_repliesSound hs
  case checksum | frameChecksum | frameSerialise => exact yields_ifLive fun _ => yields_next hs.same
  case frameNew => exact execFrameNew_repliesSound hs _ _ _ _
  case hostOutPush buf => exact execHostOutPush_repliesSound hs buf
  case hostInPop => exact execHostInPop_repliesSound hs
  case timeoutSet t _ | timeoutDisarm t =>
    refine yields_ifLive fun _ => ?_
    split
    · exact yields_next (setTimeoutReg_repliesSound hs t _)
    · exact yields_refused _
  case drvSetReady | timeoutExpired =>
    refine yields_ifLive fun _ => ?_
    split
    · exact yields_next hs.same
    · exact yields_refused _
  case uartShift | clockAdvance =>
    refine yields_ifLive fun _ => ?_
    split
    · exact yields_refused _
    · exact yields_next hs.same
  all_goals cases hrow

/-- Settles O58: SEQ_POLL asks for a status byte only past the Drain of q_status, and for a reply only outside WaitAck, where at most one
is queued or awaited; RX_BYTE queues only what is awaited, which it then no longer is; and nothing else adds to the two queues. -/
theorem statusAndAckStayBounded : Obligations.StatusAndAckStayBounded := by
  intro s t hseq hstatus hack hstatusFull hackFull h
  have hs : RepliesSound s := ⟨hstatus, hack, hstatusFull, hackFull⟩
  rcases step_next_cases h with rfl | ⟨i, trace, -, hexec⟩
  · exact hs
  · exact exec_repliesSound i (s := { s with env.trace := trace }) (hseq.of_eq rfl rfl) hs.same t hexec

end Sys2Proof.Machine
end

section
/-! PROOFS. Reset and the enabled task event (70_reset_and_hazards.md R340, R343), O49 and O32: RESET's values; and each task event as its
own enabling condition, since a run of primitive steps is never refused. -/
namespace Sys2Proof.Machine

/-! ## The enabled task event (R343) -/

theorem runTask_not_refused (n : Nat) (s : State) (r : Refusal) : runTask n s ≠ .refused r := by
  induction n generalizing s with
  | zero => simp
  | succ n ih =>
    rcases runTask_succ_cases n s with ⟨_, he⟩ | ⟨p, u, _, _, he⟩ | ⟨_, _, _, _, he⟩ | ⟨p, e, _, hstep, _⟩
    · simp [he]
    · rw [he]; exact ih u
    · simp [he]
    · exact absurd hstep (taskStep_not_refused p s e)

theorem runPreemptible_not_refused (s : State) (r : Refusal) : runPreemptible s ≠ .refused r := by
  unfold runPreemptible
  split <;> exact runTask_not_refused _ _ _

/-- An event that does not refuse by itself is refused exactly when it is not enabled. -/
theorem refused_iff_not_enabled {enabled : Bool} {o : Out} (ho : o ≠ .refused .notEnabled) :
    (if enabled then o else .refused .notEnabled) = .refused .notEnabled ↔ enabled = false := by
  cases enabled with
  | true => exact ⟨fun h => absurd h ho, nofun⟩
  | false => exact ⟨fun _ => rfl, fun _ => rfl⟩

section
variable {s : State} (hlive : s.fatal = none) (htask : s.task = none)
include hlive htask

theorem exec_drvInit_refused_iff : exec .drvInit s = .refused .notEnabled ↔ initEnabled s = false := by
  change execDrvInit s = _ ↔ _
  rw [execDrvInit, ifLive_of_live hlive, htask]
  exact refused_iff_not_enabled (runPreemptible_not_refused _ _)

theorem exec_sessionPoll_refused_iff : exec .sessionPoll s = .refused .notEnabled ↔ sessionEnabled s = false := by
  change execSessionPoll s = _ ↔ _
  rw [execSessionPoll, ifLive_of_live hlive, htask]
  exact refused_iff_not_enabled (runPreemptible_not_refused _ _)

end

theorem exec_drvSetReady_refused_iff {s : State} (hlive : s.fatal = none) :
    exec .drvSetReady s = .refused .notEnabled ↔ setReadyEnabled s = false := by
  change execDrvSetReady s = _ ↔ _
  rw [execDrvSetReady, ifLive_of_live hlive]
  exact refused_iff_not_enabled (by simp)

/-! ## The statements -/

/-- Settles O32: each of the three events tests its own condition, and an enabled one is not refused. -/
theorem oneTaskEventEnabled : Obligations.OneTaskEventEnabled := by
  intro s hlive htask
  rw [exec_drvInit_refused_iff hlive htask, exec_drvSetReady_refused_iff hlive, exec_sessionPoll_refused_iff hlive htask]
  refine ⟨?_, ?_, ?_⟩
  · simp [initEnabled]
  · simp [setReadyEnabled, htask]
  · simp [sessionEnabled]

/-- Settles O49: RESET puts the values of `State.atReset`, whatever the build, the clock's draw and what the environment has scheduled. -/
theorem resetPutsEverything : Obligations.ResetPutsEverything := by
  unfold Obligations.ResetPutsEverything
  intro atReset
  have hvalues (b : Build) (clock : Word32) (env : Env) : atReset (State.atReset b clock env) :=
    ⟨rfl, rfl, rfl, rfl, rfl, rfl, rfl, rfl, rfl, rfl, rfl, rfl⟩
  exact ⟨hvalues _ _ _, fun s => ⟨resetEngine s, rfl, hvalues _ _ _, rfl⟩⟩

end Sys2Proof.Machine
end
